-- ==== Sys2Proof/Word.lean ====
section
/-! DEFINITION. The word types of FSKSYN (00_scope.md R7, 30_encoding.md R110). -/

namespace Sys2Proof

/-- A word: 32 bits, bit 0 the least significant (R7). Every register is one word at one address (R21). -/
abbrev Word := BitVec 32

/-- One entry of the symbol memory, or one byte lane of a bridge access (R47, R83). -/
abbrev Byte := BitVec 8

/-- A host word address: 1024 words (R6 `W_ADDR`, R80). -/
abbrev Addr := BitVec 10

/-- The canonical host transaction word `T`, 43 bits (R110). -/
abbrev TWord := BitVec 43

end Sys2Proof
end

