-- ==== Sys2Proof/Syntax.lean ====
section
/-! DEFINITION. The operations of FSKSYN: one constructor per row of spec/opcode_table.json
(30_encoding.md R120, R124). Host operations carry the operand fields of their format (R111); a read's ignored
`DATA` is no operand. -/

namespace Sys2Proof

inductive Instr where
  -- Commands, writes to CMD (41_commands.md).
  /-- `CMD.NOP` (R191). -/
  | cmdNop
  /-- `CMD.START` (R192). -/
  | cmdStart
  /-- `CMD.ABORT` (R193). -/
  | cmdAbort
  /-- `CMD.CLRERR` (R194). -/
  | cmdClrerr
  /-- `CMD.SRESET` (R195). -/
  | cmdSreset
  /-- `CMD.RSVD` (R196). -/
  | cmdRsvd (imm : Word)
  -- Register reads (40_host_access.md, 44_output.md).
  /-- `RD.ID` (R142). -/
  | rdId
  /-- `RD.VERSION` (R143). -/
  | rdVersion
  /-- `RD.CAP` (R144). -/
  | rdCap
  /-- `RD.CTRL` (R145). -/
  | rdCtrl
  /-- `RD.CMD` (R147). -/
  | rdCmd
  /-- `RD.STATUS` (R148). -/
  | rdStatus
  /-- `RD.ERRCODE` (R149). -/
  | rdErrcode
  /-- `RD.ERRINFO` (R150). -/
  | rdErrinfo
  /-- `RD.IEN` (R151). -/
  | rdIen
  /-- `RD.IPEND` (R154). -/
  | rdIpend
  /-- `RD.SRATE` (R155). -/
  | rdSrate
  /-- `RD.TSYM` (R157). -/
  | rdTsym
  /-- `RD.BASEF` (R159). -/
  | rdBasef
  /-- `RD.BT` (R161). -/
  | rdBt
  /-- `RD.NSYM` (R163). -/
  | rdNsym
  /-- `RD.TONES` (R165). -/
  | rdTones
  /-- `RD.NSPS` (R167). -/
  | rdNsps
  /-- `RD.NTOT` (R168). -/
  | rdNtot
  /-- `RD.FCW0` (R169). -/
  | rdFcw0
  /-- `RD.NCNT` (R170). -/
  | rdNcnt
  /-- `RD.KIDX` (R171). -/
  | rdKidx
  /-- `RD.JIDX` (R172). -/
  | rdJidx
  /-- `RD.PHASE` (R173). -/
  | rdPhase
  /-- `RD.OUTPEEK` (R273). -/
  | rdOutpeek
  /-- `RD.OUTPOP` (R274). -/
  | rdOutpop
  /-- `RD.SYM` (R180). -/
  | rdSym (idx : Byte)
  /-- `RD.RSVD` (R182). -/
  | rdRsvd (addr : Addr)
  -- Register writes (40_host_access.md).
  /-- `WR.CTRL` (R146). -/
  | wrCtrl (imm : Word)
  /-- `WR.IEN` (R152). -/
  | wrIen (imm : Word)
  /-- `WR.IPEND` (R153). -/
  | wrIpend (imm : Word)
  /-- `WR.SRATE` (R156). -/
  | wrSrate (imm : Word)
  /-- `WR.TSYM` (R158). -/
  | wrTsym (imm : Word)
  /-- `WR.BASEF` (R160). -/
  | wrBasef (imm : Word)
  /-- `WR.BT` (R162). -/
  | wrBt (imm : Word)
  /-- `WR.NSYM` (R164). -/
  | wrNsym (imm : Word)
  /-- `WR.TONES` (R166). -/
  | wrTones (imm : Word)
  /-- `WR.SYM` (R181). -/
  | wrSym (idx : Byte) (val : Word)
  /-- `WR.RSVD` (R183). -/
  | wrRsvd (addr : Addr) (imm : Word)
  -- Writes to read-only or read-sensitive registers: one row per address, all `WR.RO` (R124, R179).
  /-- `WR.RO` on `ID` (R179). -/
  | wrRoId (imm : Word)
  /-- `WR.RO` on `VERSION` (R179). -/
  | wrRoVersion (imm : Word)
  /-- `WR.RO` on `CAP` (R179). -/
  | wrRoCap (imm : Word)
  /-- `WR.RO` on `STATUS` (R179). -/
  | wrRoStatus (imm : Word)
  /-- `WR.RO` on `ERRCODE` (R179). -/
  | wrRoErrcode (imm : Word)
  /-- `WR.RO` on `ERRINFO` (R179). -/
  | wrRoErrinfo (imm : Word)
  /-- `WR.RO` on `NSPS` (R179). -/
  | wrRoNsps (imm : Word)
  /-- `WR.RO` on `NTOT` (R179). -/
  | wrRoNtot (imm : Word)
  /-- `WR.RO` on `FCW0` (R179). -/
  | wrRoFcw0 (imm : Word)
  /-- `WR.RO` on `NCNT` (R179). -/
  | wrRoNcnt (imm : Word)
  /-- `WR.RO` on `KIDX` (R179). -/
  | wrRoKidx (imm : Word)
  /-- `WR.RO` on `JIDX` (R179). -/
  | wrRoJidx (imm : Word)
  /-- `WR.RO` on `PHASE` (R179). -/
  | wrRoPhase (imm : Word)
  /-- `WR.RO` on `OUTPEEK` (R179). -/
  | wrRoOutpeek (imm : Word)
  /-- `WR.RO` on `OUTPOP` (R179). -/
  | wrRoOutpop (imm : Word)
  -- Engine and sink operations: no encoding, selected by the state (R119).
  /-- `CHECK` (R223). -/
  | check
  /-- `EMIT` (R245). -/
  | emit
  /-- `FINISH` (R246). -/
  | finish
  /-- `POP` (R271). -/
  | pop
deriving DecidableEq, Repr

end Sys2Proof
end

