-- ==== Sys2Proof/WellFormed.lean ====
section
/-! DEFINITION. Well-formed operations: the terms the decode procedure of 30_encoding.md R120 can produce. Every
field is a bit vector of its own width, so the only terms to refuse are the three fallback rows used outside the space
they stand for. -/

namespace Sys2Proof

/-- The reserved word addresses (20_memory.md R81, 40_host_access.md R182). -/
def reservedAddr (a : Addr) : Bool :=
  let n := a.toNat
  (0x00A ≤ n && n ≤ 0x00F) || n == 0x016 || n == 0x017 || n == 0x01F || (0x022 ≤ n && n ≤ 0x0FF) || 0x200 ≤ n

/-- The reserved command words (30_encoding.md R114): an operand that is not 0, or an opcode above `0x04`. -/
def reservedCommand (d : Word) : Bool :=
  d.extractLsb' 0 24 != 0#24 || 0x04 < (d.extractLsb' 24 8).toNat

/-- The checks on a term: a fallback row stands only for its reserved space. -/
def Instr.wf : Instr → Bool
  | .rdRsvd a => reservedAddr a
  | .wrRsvd a _ => reservedAddr a
  | .cmdRsvd d => reservedCommand d
  | _ => true

end Sys2Proof
end

