-- ==== Sys2Proof/Decode.lean ====
section
/-! DEFINITION. The decode procedure of 30_encoding.md R120 over the 43-bit transaction word, the encoder written from
the formats R111, and the table of spec/opcode_table.json as data. -/

namespace Sys2Proof

/-- Build `T` from its three fields (R110): `W` in [42], `ADDR` in [41:32], `DATA` in [31:0]. -/
def mkT (w : BitVec 1) (a : Addr) (d : Word) : TWord := w ++ a ++ d

/-- `T[42]`, the direction (R110). -/
def tW (t : TWord) : BitVec 1 := t.extractLsb' 42 1

/-- `T[41:32]`, the word address (R110). -/
def tAddr (t : TWord) : Addr := t.extractLsb' 32 10

/-- `T[31:0]`, the write data (R110). -/
def tData (t : TWord) : Word := t.extractLsb' 0 32

/-- The word address of `CMD` (R26). -/
def cmdAddr : Addr := 0x004#10

/-- One named register of the map 20_memory.md R81: what a read and what a write at its address select (R120). -/
structure RegRow where
  addr : Addr
  read : Instr
  write : Word → Instr

/-- Identification, control, status, error and interrupt registers (R81), less `CMD`, whose writes are
commands. -/
def controlRows : List RegRow :=
  [ { addr := 0x000#10, read := .rdId, write := .wrRoId }
  , { addr := 0x001#10, read := .rdVersion, write := .wrRoVersion }
  , { addr := 0x002#10, read := .rdCap, write := .wrRoCap }
  , { addr := 0x003#10, read := .rdCtrl, write := .wrCtrl }
  , { addr := 0x005#10, read := .rdStatus, write := .wrRoStatus }
  , { addr := 0x006#10, read := .rdErrcode, write := .wrRoErrcode }
  , { addr := 0x007#10, read := .rdErrinfo, write := .wrRoErrinfo }
  , { addr := 0x008#10, read := .rdIen, write := .wrIen }
  , { addr := 0x009#10, read := .rdIpend, write := .wrIpend } ]

/-- Parameter, derived, sequencer, datapath and output registers (R81). -/
def datapathRows : List RegRow :=
  [ { addr := 0x010#10, read := .rdSrate, write := .wrSrate }
  , { addr := 0x011#10, read := .rdTsym, write := .wrTsym }
  , { addr := 0x012#10, read := .rdBasef, write := .wrBasef }
  , { addr := 0x013#10, read := .rdBt, write := .wrBt }
  , { addr := 0x014#10, read := .rdNsym, write := .wrNsym }
  , { addr := 0x015#10, read := .rdTones, write := .wrTones }
  , { addr := 0x018#10, read := .rdNsps, write := .wrRoNsps }
  , { addr := 0x019#10, read := .rdNtot, write := .wrRoNtot }
  , { addr := 0x01A#10, read := .rdFcw0, write := .wrRoFcw0 }
  , { addr := 0x01B#10, read := .rdNcnt, write := .wrRoNcnt }
  , { addr := 0x01C#10, read := .rdKidx, write := .wrRoKidx }
  , { addr := 0x01D#10, read := .rdJidx, write := .wrRoJidx }
  , { addr := 0x01E#10, read := .rdPhase, write := .wrRoPhase }
  , { addr := 0x020#10, read := .rdOutpeek, write := .wrRoOutpeek }
  , { addr := 0x021#10, read := .rdOutpop, write := .wrRoOutpop } ]

/-- The registers of R81 that R120 reaches by name. -/
def regMap : List RegRow := controlRows ++ datapathRows

/-- The named register at an address, if there is one. -/
def regAt (a : Addr) : Option RegRow := regMap.find? (fun r => r.addr == a)

/-- A write to `CMD` (R112, R113, R114, R190): the opcode is `DATA[31:24]`, the operand `DATA[23:0]` must be 0. -/
def decodeCommand (d : Word) : Instr :=
  if d.extractLsb' 0 24 = 0#24 then
    if d.extractLsb' 24 8 = 0x00#8 then .cmdNop
    else if d.extractLsb' 24 8 = 0x01#8 then .cmdStart
    else if d.extractLsb' 24 8 = 0x02#8 then .cmdAbort
    else if d.extractLsb' 24 8 = 0x03#8 then .cmdClrerr
    else if d.extractLsb' 24 8 = 0x04#8 then .cmdSreset
    else .cmdRsvd d
  else .cmdRsvd d

/-- A read of word address `a` (R120 with `W` = 0; `DATA` is ignored, R110). -/
def decodeRead (a : Addr) : Instr :=
  if a.extractLsb' 8 2 = 0b01#2 then .rdSym (a.extractLsb' 0 8)
  else if a = cmdAddr then .rdCmd
  else match regAt a with
    | some r => r.read
    | none => .rdRsvd a

/-- A write of `d` to word address `a` (R120 with `W` = 1). -/
def decodeWrite (a : Addr) (d : Word) : Instr :=
  if a = cmdAddr then decodeCommand d
  else if a.extractLsb' 8 2 = 0b01#2 then .wrSym (a.extractLsb' 0 8) d
  else match regAt a with
    | some r => r.write d
    | none => .wrRsvd a d

/-- The decode procedure R120. It is total on the 43-bit words and does not look at the state (R121). -/
def decodeWord (t : TWord) : Instr :=
  if tW t = 1#1 then decodeWrite (tAddr t) (tData t) else decodeRead (tAddr t)

/-- Why bytes are no transaction word. -/
inductive DecodeError where
  /-- Fewer than the six bytes that hold 43 bits. -/
  | truncated
  /-- A bit above bit 42 is set: `T` has 43 bits (R110). -/
  | above43Bits
deriving DecidableEq, Repr

/-- Decode from bytes, the least significant byte first (log entry 12): six bytes, the top five bits 0. Answers the
operation and the bytes that follow. -/
def decodeBytes : List Byte → Except DecodeError (Instr × List Byte)
  | b0 :: b1 :: b2 :: b3 :: b4 :: b5 :: rest =>
    let v : BitVec 48 := b5 ++ b4 ++ b3 ++ b2 ++ b1 ++ b0
    if v.extractLsb' 43 5 = 0#5 then .ok (decodeWord (v.extractLsb' 0 43), rest) else .error .above43Bits
  | _ => .error .truncated

/-- The `k` low bytes of a number, the least significant first. -/
def leBytes : Nat → Nat → List Byte
  | 0, _ => []
  | k + 1, n => BitVec.ofNat 8 n :: leBytes k (n / 256)

/-- What the decoder reads from a table word: `T` is one word of 43 bits, six bytes; bits at and above `nbits` are 0. -/
def decodeTableWord (nbits w : Nat) : Option Instr :=
  match decodeBytes (leBytes 6 (w % 2 ^ nbits)) with
  | .ok (i, _) => some i
  | .error _ => none

/-- The mnemonic of each row (R124). -/
def Instr.mnemonic : Instr → String
  | .cmdNop => "CMD.NOP"
  | .cmdStart => "CMD.START"
  | .cmdAbort => "CMD.ABORT"
  | .cmdClrerr => "CMD.CLRERR"
  | .cmdSreset => "CMD.SRESET"
  | .cmdRsvd _ => "CMD.RSVD"
  | .rdId => "RD.ID"
  | .wrRoId _ => "WR.RO"
  | .rdVersion => "RD.VERSION"
  | .wrRoVersion _ => "WR.RO"
  | .rdCap => "RD.CAP"
  | .wrRoCap _ => "WR.RO"
  | .rdCtrl => "RD.CTRL"
  | .wrCtrl _ => "WR.CTRL"
  | .rdCmd => "RD.CMD"
  | .rdStatus => "RD.STATUS"
  | .wrRoStatus _ => "WR.RO"
  | .rdErrcode => "RD.ERRCODE"
  | .wrRoErrcode _ => "WR.RO"
  | .rdErrinfo => "RD.ERRINFO"
  | .wrRoErrinfo _ => "WR.RO"
  | .rdIen => "RD.IEN"
  | .wrIen _ => "WR.IEN"
  | .rdIpend => "RD.IPEND"
  | .wrIpend _ => "WR.IPEND"
  | .rdSrate => "RD.SRATE"
  | .wrSrate _ => "WR.SRATE"
  | .rdTsym => "RD.TSYM"
  | .wrTsym _ => "WR.TSYM"
  | .rdBasef => "RD.BASEF"
  | .wrBasef _ => "WR.BASEF"
  | .rdBt => "RD.BT"
  | .wrBt _ => "WR.BT"
  | .rdNsym => "RD.NSYM"
  | .wrNsym _ => "WR.NSYM"
  | .rdTones => "RD.TONES"
  | .wrTones _ => "WR.TONES"
  | .rdNsps => "RD.NSPS"
  | .wrRoNsps _ => "WR.RO"
  | .rdNtot => "RD.NTOT"
  | .wrRoNtot _ => "WR.RO"
  | .rdFcw0 => "RD.FCW0"
  | .wrRoFcw0 _ => "WR.RO"
  | .rdNcnt => "RD.NCNT"
  | .wrRoNcnt _ => "WR.RO"
  | .rdKidx => "RD.KIDX"
  | .wrRoKidx _ => "WR.RO"
  | .rdJidx => "RD.JIDX"
  | .wrRoJidx _ => "WR.RO"
  | .rdPhase => "RD.PHASE"
  | .wrRoPhase _ => "WR.RO"
  | .rdOutpeek => "RD.OUTPEEK"
  | .wrRoOutpeek _ => "WR.RO"
  | .rdOutpop => "RD.OUTPOP"
  | .wrRoOutpop _ => "WR.RO"
  | .rdSym _ => "RD.SYM"
  | .wrSym _ _ => "WR.SYM"
  | .rdRsvd _ => "RD.RSVD"
  | .wrRsvd _ _ => "WR.RSVD"
  | .check => "CHECK"
  | .emit => "EMIT"
  | .finish => "FINISH"
  | .pop => "POP"

/-- The transaction word of a host operation (R111, R113, R125); engine and sink operations have none (R119). A read's
`DATA` is written as 0 (R110). -/
def encode : Instr → Option TWord
  | .cmdNop => some (mkT 1#1 cmdAddr 0x00000000#32)
  | .cmdStart => some (mkT 1#1 cmdAddr 0x01000000#32)
  | .cmdAbort => some (mkT 1#1 cmdAddr 0x02000000#32)
  | .cmdClrerr => some (mkT 1#1 cmdAddr 0x03000000#32)
  | .cmdSreset => some (mkT 1#1 cmdAddr 0x04000000#32)
  | .cmdRsvd imm => some (mkT 1#1 cmdAddr imm)
  | .rdId => some (mkT 0#1 0x000#10 0#32)
  | .wrRoId imm => some (mkT 1#1 0x000#10 imm)
  | .rdVersion => some (mkT 0#1 0x001#10 0#32)
  | .wrRoVersion imm => some (mkT 1#1 0x001#10 imm)
  | .rdCap => some (mkT 0#1 0x002#10 0#32)
  | .wrRoCap imm => some (mkT 1#1 0x002#10 imm)
  | .rdCtrl => some (mkT 0#1 0x003#10 0#32)
  | .wrCtrl imm => some (mkT 1#1 0x003#10 imm)
  | .rdCmd => some (mkT 0#1 0x004#10 0#32)
  | .rdStatus => some (mkT 0#1 0x005#10 0#32)
  | .wrRoStatus imm => some (mkT 1#1 0x005#10 imm)
  | .rdErrcode => some (mkT 0#1 0x006#10 0#32)
  | .wrRoErrcode imm => some (mkT 1#1 0x006#10 imm)
  | .rdErrinfo => some (mkT 0#1 0x007#10 0#32)
  | .wrRoErrinfo imm => some (mkT 1#1 0x007#10 imm)
  | .rdIen => some (mkT 0#1 0x008#10 0#32)
  | .wrIen imm => some (mkT 1#1 0x008#10 imm)
  | .rdIpend => some (mkT 0#1 0x009#10 0#32)
  | .wrIpend imm => some (mkT 1#1 0x009#10 imm)
  | .rdSrate => some (mkT 0#1 0x010#10 0#32)
  | .wrSrate imm => some (mkT 1#1 0x010#10 imm)
  | .rdTsym => some (mkT 0#1 0x011#10 0#32)
  | .wrTsym imm => some (mkT 1#1 0x011#10 imm)
  | .rdBasef => some (mkT 0#1 0x012#10 0#32)
  | .wrBasef imm => some (mkT 1#1 0x012#10 imm)
  | .rdBt => some (mkT 0#1 0x013#10 0#32)
  | .wrBt imm => some (mkT 1#1 0x013#10 imm)
  | .rdNsym => some (mkT 0#1 0x014#10 0#32)
  | .wrNsym imm => some (mkT 1#1 0x014#10 imm)
  | .rdTones => some (mkT 0#1 0x015#10 0#32)
  | .wrTones imm => some (mkT 1#1 0x015#10 imm)
  | .rdNsps => some (mkT 0#1 0x018#10 0#32)
  | .wrRoNsps imm => some (mkT 1#1 0x018#10 imm)
  | .rdNtot => some (mkT 0#1 0x019#10 0#32)
  | .wrRoNtot imm => some (mkT 1#1 0x019#10 imm)
  | .rdFcw0 => some (mkT 0#1 0x01A#10 0#32)
  | .wrRoFcw0 imm => some (mkT 1#1 0x01A#10 imm)
  | .rdNcnt => some (mkT 0#1 0x01B#10 0#32)
  | .wrRoNcnt imm => some (mkT 1#1 0x01B#10 imm)
  | .rdKidx => some (mkT 0#1 0x01C#10 0#32)
  | .wrRoKidx imm => some (mkT 1#1 0x01C#10 imm)
  | .rdJidx => some (mkT 0#1 0x01D#10 0#32)
  | .wrRoJidx imm => some (mkT 1#1 0x01D#10 imm)
  | .rdPhase => some (mkT 0#1 0x01E#10 0#32)
  | .wrRoPhase imm => some (mkT 1#1 0x01E#10 imm)
  | .rdOutpeek => some (mkT 0#1 0x020#10 0#32)
  | .wrRoOutpeek imm => some (mkT 1#1 0x020#10 imm)
  | .rdOutpop => some (mkT 0#1 0x021#10 0#32)
  | .wrRoOutpop imm => some (mkT 1#1 0x021#10 imm)
  | .rdSym idx => some (mkT 0#1 (0b01#2 ++ idx) 0#32)
  | .wrSym idx val => some (mkT 1#1 (0b01#2 ++ idx) val)
  | .rdRsvd addr => some (mkT 0#1 addr 0#32)
  | .wrRsvd addr imm => some (mkT 1#1 addr imm)
  | .check => none
  | .emit => none
  | .finish => none
  | .pop => none

/-- A row of spec/opcode_table.json: it applies to `T` when `T and mask = pattern` (R120). -/
structure OpRow where
  mnemonic : String
  pattern : TWord
  mask : TWord
  priority : Nat
deriving DecidableEq, Repr

def opRowsA : List OpRow :=
  [ { mnemonic := "CMD.NOP", pattern := 0x40400000000#43, mask := 0x7FFFFFFFFFF#43, priority := 0 }
  , { mnemonic := "CMD.START", pattern := 0x40401000000#43, mask := 0x7FFFFFFFFFF#43, priority := 0 }
  , { mnemonic := "CMD.ABORT", pattern := 0x40402000000#43, mask := 0x7FFFFFFFFFF#43, priority := 0 }
  , { mnemonic := "CMD.CLRERR", pattern := 0x40403000000#43, mask := 0x7FFFFFFFFFF#43, priority := 0 }
  , { mnemonic := "CMD.SRESET", pattern := 0x40404000000#43, mask := 0x7FFFFFFFFFF#43, priority := 0 }
  , { mnemonic := "CMD.RSVD", pattern := 0x40400000000#43, mask := 0x7FF00000000#43, priority := 2 }
  , { mnemonic := "RD.ID", pattern := 0x00000000000#43, mask := 0x7FF00000000#43, priority := 1 }
  , { mnemonic := "WR.RO", pattern := 0x40000000000#43, mask := 0x7FF00000000#43, priority := 2 }
  , { mnemonic := "RD.VERSION", pattern := 0x00100000000#43, mask := 0x7FF00000000#43, priority := 1 }
  , { mnemonic := "WR.RO", pattern := 0x40100000000#43, mask := 0x7FF00000000#43, priority := 2 }
  , { mnemonic := "RD.CAP", pattern := 0x00200000000#43, mask := 0x7FF00000000#43, priority := 1 }
  , { mnemonic := "WR.RO", pattern := 0x40200000000#43, mask := 0x7FF00000000#43, priority := 2 }
  , { mnemonic := "RD.CTRL", pattern := 0x00300000000#43, mask := 0x7FF00000000#43, priority := 1 }
  , { mnemonic := "WR.CTRL", pattern := 0x40300000000#43, mask := 0x7FF00000000#43, priority := 1 }
  , { mnemonic := "RD.CMD", pattern := 0x00400000000#43, mask := 0x7FF00000000#43, priority := 1 }
  , { mnemonic := "RD.STATUS", pattern := 0x00500000000#43, mask := 0x7FF00000000#43, priority := 1 }
  , { mnemonic := "WR.RO", pattern := 0x40500000000#43, mask := 0x7FF00000000#43, priority := 2 }
  , { mnemonic := "RD.ERRCODE", pattern := 0x00600000000#43, mask := 0x7FF00000000#43, priority := 1 }
  , { mnemonic := "WR.RO", pattern := 0x40600000000#43, mask := 0x7FF00000000#43, priority := 2 }
  , { mnemonic := "RD.ERRINFO", pattern := 0x00700000000#43, mask := 0x7FF00000000#43, priority := 1 } ]

def opRowsB : List OpRow :=
  [ { mnemonic := "WR.RO", pattern := 0x40700000000#43, mask := 0x7FF00000000#43, priority := 2 }
  , { mnemonic := "RD.IEN", pattern := 0x00800000000#43, mask := 0x7FF00000000#43, priority := 1 }
  , { mnemonic := "WR.IEN", pattern := 0x40800000000#43, mask := 0x7FF00000000#43, priority := 1 }
  , { mnemonic := "RD.IPEND", pattern := 0x00900000000#43, mask := 0x7FF00000000#43, priority := 1 }
  , { mnemonic := "WR.IPEND", pattern := 0x40900000000#43, mask := 0x7FF00000000#43, priority := 1 }
  , { mnemonic := "RD.SRATE", pattern := 0x01000000000#43, mask := 0x7FF00000000#43, priority := 1 }
  , { mnemonic := "WR.SRATE", pattern := 0x41000000000#43, mask := 0x7FF00000000#43, priority := 1 }
  , { mnemonic := "RD.TSYM", pattern := 0x01100000000#43, mask := 0x7FF00000000#43, priority := 1 }
  , { mnemonic := "WR.TSYM", pattern := 0x41100000000#43, mask := 0x7FF00000000#43, priority := 1 }
  , { mnemonic := "RD.BASEF", pattern := 0x01200000000#43, mask := 0x7FF00000000#43, priority := 1 }
  , { mnemonic := "WR.BASEF", pattern := 0x41200000000#43, mask := 0x7FF00000000#43, priority := 1 }
  , { mnemonic := "RD.BT", pattern := 0x01300000000#43, mask := 0x7FF00000000#43, priority := 1 }
  , { mnemonic := "WR.BT", pattern := 0x41300000000#43, mask := 0x7FF00000000#43, priority := 1 }
  , { mnemonic := "RD.NSYM", pattern := 0x01400000000#43, mask := 0x7FF00000000#43, priority := 1 }
  , { mnemonic := "WR.NSYM", pattern := 0x41400000000#43, mask := 0x7FF00000000#43, priority := 1 }
  , { mnemonic := "RD.TONES", pattern := 0x01500000000#43, mask := 0x7FF00000000#43, priority := 1 }
  , { mnemonic := "WR.TONES", pattern := 0x41500000000#43, mask := 0x7FF00000000#43, priority := 1 }
  , { mnemonic := "RD.NSPS", pattern := 0x01800000000#43, mask := 0x7FF00000000#43, priority := 1 }
  , { mnemonic := "WR.RO", pattern := 0x41800000000#43, mask := 0x7FF00000000#43, priority := 2 }
  , { mnemonic := "RD.NTOT", pattern := 0x01900000000#43, mask := 0x7FF00000000#43, priority := 1 } ]

def opRowsC : List OpRow :=
  [ { mnemonic := "WR.RO", pattern := 0x41900000000#43, mask := 0x7FF00000000#43, priority := 2 }
  , { mnemonic := "RD.FCW0", pattern := 0x01A00000000#43, mask := 0x7FF00000000#43, priority := 1 }
  , { mnemonic := "WR.RO", pattern := 0x41A00000000#43, mask := 0x7FF00000000#43, priority := 2 }
  , { mnemonic := "RD.NCNT", pattern := 0x01B00000000#43, mask := 0x7FF00000000#43, priority := 1 }
  , { mnemonic := "WR.RO", pattern := 0x41B00000000#43, mask := 0x7FF00000000#43, priority := 2 }
  , { mnemonic := "RD.KIDX", pattern := 0x01C00000000#43, mask := 0x7FF00000000#43, priority := 1 }
  , { mnemonic := "WR.RO", pattern := 0x41C00000000#43, mask := 0x7FF00000000#43, priority := 2 }
  , { mnemonic := "RD.JIDX", pattern := 0x01D00000000#43, mask := 0x7FF00000000#43, priority := 1 }
  , { mnemonic := "WR.RO", pattern := 0x41D00000000#43, mask := 0x7FF00000000#43, priority := 2 }
  , { mnemonic := "RD.PHASE", pattern := 0x01E00000000#43, mask := 0x7FF00000000#43, priority := 1 }
  , { mnemonic := "WR.RO", pattern := 0x41E00000000#43, mask := 0x7FF00000000#43, priority := 2 }
  , { mnemonic := "RD.OUTPEEK", pattern := 0x02000000000#43, mask := 0x7FF00000000#43, priority := 1 }
  , { mnemonic := "WR.RO", pattern := 0x42000000000#43, mask := 0x7FF00000000#43, priority := 2 }
  , { mnemonic := "RD.OUTPOP", pattern := 0x02100000000#43, mask := 0x7FF00000000#43, priority := 1 }
  , { mnemonic := "WR.RO", pattern := 0x42100000000#43, mask := 0x7FF00000000#43, priority := 2 }
  , { mnemonic := "RD.SYM", pattern := 0x10000000000#43, mask := 0x70000000000#43, priority := 1 }
  , { mnemonic := "WR.SYM", pattern := 0x50000000000#43, mask := 0x70000000000#43, priority := 1 }
  , { mnemonic := "RD.RSVD", pattern := 0x00000000000#43, mask := 0x40000000000#43, priority := 3 }
  , { mnemonic := "WR.RSVD", pattern := 0x40000000000#43, mask := 0x40000000000#43, priority := 3 } ]

/-- The 59 encoded rows of the table, in its order. -/
def opTable : List OpRow := opRowsA ++ opRowsB ++ opRowsC

/-- A row applies to a word (R120). -/
def OpRow.applies (r : OpRow) (t : TWord) : Bool := t &&& r.mask == r.pattern

/-- Whether `r` is selected from `rows` at `t`: it applies, and every other row that applies has a larger priority
number (R120: "where several apply, the one with the smallest `priority` wins"). -/
def OpRow.winsIn (r : OpRow) (rows : List OpRow) (t : TWord) : Bool :=
  r.applies t && rows.all (fun q => !q.applies t || q == r || r.priority < q.priority)

end Sys2Proof
end

