-- ==== Sys2Proof/Config.lean ====
section
/-! DEFINITION. The implementation parameters of 00_scope.md R6 and the constant words built from them. -/

namespace Sys2Proof.Config

/-- `W_PHI`: width of the phase accumulator; one unit is 2^-32 turn. -/
abbrev wPhi : Nat := 32

/-- `W_PQ`: fractional bits of a quantised pulse value. -/
abbrev wPq : Nat := 15

/-- `L_PULSE`: length of the frequency pulse in symbol periods. -/
abbrev lPulse : Nat := 3

/-- `H_MOD`: modulation index, tone spacing times symbol period. -/
abbrev hMod : Nat := 1

/-- `NSYM_MAX`: most symbols in one sequence; size of the symbol memory. -/
abbrev nsymMax : Nat := 256

/-- `TONES_MAX`: largest tone alphabet. -/
abbrev tonesMax : Nat := 8

/-- `NSPS_MAX`: most samples per symbol. -/
abbrev nspsMax : Nat := 65535

/-- Largest legal `BT` (R35): the format has 8 integer and 8 fractional bits. -/
abbrev btMax : Nat := 0xFFFF

/-- `ID_VALUE` (R22): the bytes 'F','S','K','S'. -/
def idValue : Word := 0x46534B53#32

/-- `VERSION_VALUE` (R23): 1.0. -/
def versionValue : Word := 0x00010000#32

/-- The word of `CAP` (R24): `NSPS_MAX` in [31:16], `TONES_MAX` in [15:12], `NSYM_MAX` in [8:0]. -/
def capValue : Word := BitVec.ofNat 32 (nspsMax * 2 ^ 16 + tonesMax * 2 ^ 12 + nsymMax)

/-- `NO_DATA` (R46): a binary32 quiet NaN, returned when no sample is held. -/
def noData : Word := 0x7FC00000#32

end Sys2Proof.Config
end

