-- ==== Sys2Proof/Machine/State.lean ====
section
/-! DEFINITION. The state of FSKSYN (10_state.md R20), the events that reach it from outside, and the reasons a step of
the model can stop. State is plain data. -/

namespace Sys2Proof.Machine

/-- `STATE` (R51). -/
inductive RunState where
  | idle | check | run | fault
deriving DecidableEq, Repr

/-- The symbol memory (R47): pairs of an index and a byte, indices strictly rising, no entry equal to what an unlisted
index reads as (`Memory.wf` and `Memory.unlisted`, Machine/Ops.lean). -/
abbrev Memory := List Host.Cell

/-- An access on a byte-addressed bus in front of the block (20_memory.md R83, R84): the byte offset from the platform's
`BASE`, the number of bytes, and, for a write, the byte lanes in ascending address order. -/
structure BusAccess where
  write : Bool
  offset : Nat
  width : Nat
  lanes : List (BitVec 8)
deriving DecidableEq, Repr

/-- One turn given from outside (00_scope.md R11; the lines of the notation 30_encoding.md R122). -/
inductive Event where
  /-- The host's transaction `T` (R110, R140). -/
  | host (t : TWord)
  /-- A platform bus access that a bridge brings to the host port (R84). -/
  | bus (a : BusAccess)
  /-- The engine takes its one enabled step (R119). -/
  | engine
  /-- The sink takes `POP` (R271). -/
  | sink
  /-- A hardware reset (R360); `draw` lists what the symbol memory holds after it, 0 where nothing is listed (R59). -/
  | reset (draw : Memory)
deriving DecidableEq, Repr

/-- What left the holding register in one taking (R270): a beat delivered to the sink (R271), or the word an `OUTPOP`
read returned (R274, which does not return the last flag). -/
inductive Delivery where
  | beat (data : Word) (last : Bool)
  | popped (data : Word)
deriving DecidableEq, Repr

structure State where
  /-- `STATE` (R51). -/
  state : RunState
  /-- `DONE` (R52). -/
  done : Bool
  /-- `WRBUSY` (R53). -/
  wrbusy : Bool
  /-- `CMDERR` (R53). -/
  cmderr : Bool
  /-- `CTRL.SINKSEL` (R25). -/
  sinksel : Bool
  /-- `ERRCODE` (R28): `KIND` [7:0], `CAUSE` [15:8]. -/
  errcode : BitVec 16
  /-- `ERRINFO` (R29). -/
  errinfo : Word
  /-- `IEN` (R30). -/
  ien : BitVec 3
  /-- `IPEND` (R31). -/
  ipend : BitVec 3
  /-- `SRATE` (R32). -/
  srate : Word
  /-- `TSYM` (R33). -/
  tsym : Word
  /-- `BASEF` (R34). -/
  basef : Word
  /-- `BT` (R35). -/
  bt : Word
  /-- `NSYM` (R36). -/
  nsym : Word
  /-- `TONES` (R37). -/
  tones : Word
  /-- `NSPS` (R38). -/
  nsps : BitVec 16
  /-- `NTOT` (R39). -/
  ntot : Word
  /-- `FCW0` (R40). -/
  fcw0 : Word
  /-- `NCNT` (R41). -/
  ncnt : Word
  /-- `KIDX` (R42). -/
  kidx : BitVec 9
  /-- `JIDX` (R43). -/
  jidx : BitVec 16
  /-- `PHASE` (R44). -/
  phase : Word
  /-- `OUT` (R45). -/
  out : Word
  /-- `OUT_VALID` (R45). -/
  outValid : Bool
  /-- `OUT_LAST` (R45). -/
  outLast : Bool
  /-- `SYM` (R47). -/
  sym : Memory
  /-- The model's own: the events still to come from outside, in order (log entry 2). -/
  inputs : List Event
  /-- The model's own: the word the latest host read returned on `hb_rdata` (R61, R140; log entry 4). -/
  rdata : Option Word
  /-- The model's own: what has been taken since the last accepted `START`, newest first; the carrier of the document's
  waveform buffer (R80, R275; log entry 5). -/
  delivered : List Delivery
deriving DecidableEq, Repr

/-- The machine stops. No fault of the spec is one of these: `InvalidParameters` is a next state (R324). -/
inductive Fault where
  /-- Raised by `EMIT` outside the domain its rules are given for (43_engine_emit.md R231, R233 with 10_state.md R56 I2):
  `KIDX` not below `NSYM`, `NSYM` above 256, `JIDX` not below `NSPS`, or `BT` out of 1 to `0xFFFF`. No run reaches it
  (log entry 8). Safe. -/
  | emitOutsideRun
deriving DecidableEq, Repr

/-- Why an operation or an event has no step here. -/
inductive Refusal where
  /-- Raised by `exec` for an instruction without a meaning. Safe. -/
  | notModelled (mnemonic : String)
  /-- Raised by `CHECK`, `EMIT`, `FINISH` and `POP` where their selection condition does not hold (R119; log entry 9).
  Safe. -/
  | notEnabled (mnemonic : String)
  /-- Raised by `step` at an engine turn when no engine step is enabled: "an error of the trace" (R122; log entry 9).
  Safe. -/
  | noEngineStep
  /-- Raised by `step` for a bus access that is not one aligned 32-bit word (R84, U4; log entry 11). Safe. -/
  | notOneAlignedWord
  /-- Raised by `step` for a bus access past the block's 1024 words (R80; log entry 11). Safe. -/
  | outsideTheBlock
deriving DecidableEq, Repr

/-- The outcome of an operation. -/
abbrev Result := Host.Outcome State Fault Refusal

/-- The machine after power-on reset (R58, R360): every element 0; `SYM`, which the spec leaves unspecified (R59),
lists nothing, so every entry reads 0 here (log entry 1, DESIGN CHOICE). No event is waiting, nothing has been read or
delivered. -/
def State.reset : State where
  state := .idle
  done := false
  wrbusy := false
  cmderr := false
  sinksel := false
  errcode := 0#16
  errinfo := 0#32
  ien := 0#3
  ipend := 0#3
  srate := 0#32
  tsym := 0#32
  basef := 0#32
  bt := 0#32
  nsym := 0#32
  tones := 0#32
  nsps := 0#16
  ntot := 0#32
  fcw0 := 0#32
  ncnt := 0#32
  kidx := 0#9
  jidx := 0#16
  phase := 0#32
  out := 0#32
  outValid := false
  outLast := false
  sym := []
  inputs := []
  rdata := none
  delivered := []

end Sys2Proof.Machine
end

