-- ==== Sys2Proof/Machine/Flags.lean ====
section
/-! DEFINITION. Flags, the words assembled from them, and the output pins (10_state.md R27, R52 to R54, R61;
60_exceptions.md R330; 44_output.md R272). -/

namespace Sys2Proof.Machine

/-- The value of `STATE` in `STATUS[1:0]` (R27). -/
def RunState.code : RunState → BitVec 2
  | .idle => 0#2
  | .check => 1#2
  | .run => 2#2
  | .fault => 3#2

/-- `BUSY` (R27): `STATE` is `CHECK` or `RUN`. -/
def busy (s : State) : Bool :=
  match s.state with
  | .check => true
  | .run => true
  | .idle => false
  | .fault => false

/-- `ERR` (R27): `STATE` is `FAULT`. -/
def err (s : State) : Bool :=
  match s.state with
  | .fault => true
  | .idle => false
  | .check => false
  | .run => false

/-- `OLAST` (R27): `OUT_VALID and OUT_LAST`. -/
def olast (s : State) : Bool := s.outValid && s.outLast

/-- The word of `STATUS`, fields from bit 31 down as in the table of R27. -/
def statusWord (s : State) : Word :=
  0#21 ++ BitVec.ofBool (olast s) ++ BitVec.ofBool s.cmderr ++ BitVec.ofBool s.wrbusy ++ BitVec.ofBool s.outValid ++
    BitVec.ofBool (err s) ++ BitVec.ofBool s.done ++ BitVec.ofBool (busy s) ++ 0#2 ++ s.state.code

/-- The interrupt line (R330): some pending bit is enabled. -/
def irq (s : State) : Bool := s.ien &&& s.ipend != 0#3

/-- `out_tvalid` (R272): a sample is offered on the stream port. -/
def outTvalid (s : State) : Bool := s.outValid && !s.sinksel

/-- The beat offered on the stream port: `out_tdata` and `out_tlast`, which have no meaning while `out_tvalid` = 0
(R60, R272, U3). -/
def offeredBeat (s : State) : Option (Word × Bool) := if outTvalid s then some (s.out, s.outLast) else none

/-- What a read of the holding register shows when it is full, and `NO_DATA` when it is empty (R46). -/
def heldWord (s : State) : Word := if s.outValid then s.out else Config.noData

/-- `DONE_IP`, `ERR_IP`, `HAZ_IP` (R31). -/
def doneIp : BitVec 3 := 0b001#3
def errIp : BitVec 3 := 0b010#3
def hazIp : BitVec 3 := 0b100#3

/-- A write to a busy-protected address while busy (R53, R141): `WRBUSY` and `HAZ_IP` are set. -/
def State.noteWrbusy (s : State) : State := { s with wrbusy := true, ipend := s.ipend ||| hazIp }

/-- A refused `START` or a reserved command (R53, R192, R196): `CMDERR` and `HAZ_IP` are set. -/
def State.noteCmderr (s : State) : State := { s with cmderr := true, ipend := s.ipend ||| hazIp }

end Sys2Proof.Machine
end

