-- ==== Sys2Proof/Machine/Operands.lean ====
section
/-! DEFINITION. How operands are read (30_encoding.md R112, R116, R117) and how a byte-addressed bus reaches the host
port (20_memory.md R83, R84). -/

namespace Sys2Proof.Machine

/-- `s32` (00_scope.md R7): a 32-bit pattern as two's complement. -/
def s32 (v : Word) : Int := if v.toNat < 2 ^ 31 then (v.toNat : Int) else (v.toNat : Int) - 2 ^ 32

/-- `CTRL` operand: only bit 0 is kept (R146). -/
def ctrlOperand (imm : Word) : Bool := imm.getLsbD 0

/-- `IEN` and `IPEND` operand: only bits [2:0] are kept (R152, R153). -/
def irqOperand (imm : Word) : BitVec 3 := imm.extractLsb' 0 3

/-- Symbol operand (R117, R181): the byte if bits [31:8] are 0, else `0xFF`; a saturating store. -/
def symOperand (val : Word) : Byte := if val.extractLsb' 8 24 = 0#24 then val.extractLsb' 0 8 else 0xFF#8

/-- The four byte lanes of a word in ascending address order, little-endian (R83). -/
def wordLanes (w : Word) : List Byte :=
  [w.extractLsb' 0 8, w.extractLsb' 8 8, w.extractLsb' 16 8, w.extractLsb' 24 8]

/-- The word of four byte lanes (R83); nothing for another number of lanes. -/
def lanesWord : List Byte → Option Word
  | [b0, b1, b2, b3] => some (b3 ++ b2 ++ b1 ++ b0)
  | _ => none

/-- The direction bit of a bus access. -/
def BusAccess.dir (a : BusAccess) : BitVec 1 := BitVec.ofBool a.write

/-- The write data of a bus access; a read carries none. -/
def BusAccess.data (a : BusAccess) : Option Word := if a.write then lanesWord a.lanes else some 0#32

/-- The transaction a bus access becomes (R8, R83): word address `offset / 4`. An access that is not one aligned word is
refused (R84), and so is one past the block's 4096 bytes. -/
def busWord (a : BusAccess) : Except Refusal TWord :=
  if a.width ≠ 4 ∨ a.offset % 4 ≠ 0 then .error .notOneAlignedWord
  else match a.data with
    | none => .error .notOneAlignedWord
    | some d =>
      if a.offset / 4 < 1024 then .ok (a.dir ++ BitVec.ofNat 10 (a.offset / 4) ++ d) else .error .outsideTheBlock

end Sys2Proof.Machine
end

