-- ==== Sys2Proof/Machine/Ops.lean ====
section
/-! DEFINITION. The operations the meanings share: the symbol memory, register reads, busy-protected writes, the
exception `InvalidParameters` and the return from it, resets, takings from the holding register. -/

namespace Sys2Proof.Machine

/-- What an unlisted index of the symbol memory reads as: 0 (log entry 1; the spec leaves it open, R59). -/
def Memory.unlisted : Byte := 0#8

/-- Read entry `a` of the symbol memory (R47). -/
def Memory.read : Memory → Nat → Byte
  | [], _ => Memory.unlisted
  | (a', b) :: m, a => if a = a' then b else Memory.read m a

/-- Write entry `a`; the list keeps its canonical form (a written `unlisted` value is not listed). -/
def Memory.write : Memory → Nat → Byte → Memory
  | [], a, b => if b = Memory.unlisted then [] else [(a, b)]
  | (a', b') :: m, a, b =>
    if a < a' then (if b = Memory.unlisted then (a', b') :: m else (a, b) :: (a', b') :: m)
    else if a = a' then (if b = Memory.unlisted then m else (a, b) :: m)
    else (a', b') :: Memory.write m a b

/-- The canonical form: indices strictly rising and below 256, no entry equal to what an unlisted index reads as. -/
abbrev Memory.wf (m : Memory) : Prop :=
  m.Pairwise (fun c d => c.1 < d.1) ∧ ∀ c ∈ m, c.1 < 256 ∧ c.2 ≠ Memory.unlisted

/-- The memory a list of cells describes, in canonical form: a later cell gives way to an earlier one of the same index,
cells past index 255 name no entry. Every content of the 256 entries is some list's. -/
def Memory.ofCells : List Host.Cell → Memory
  | [] => []
  | c :: cs => if c.1 < 256 then Memory.write (Memory.ofCells cs) c.1 c.2 else Memory.ofCells cs

/-- A host read returns a word on `hb_rdata` and, but for what its own rule says, changes nothing (R140). -/
def readReturns (v : Word) (s : State) : Result := .next { s with rdata := some v }

/-- A write to a read-only, read-sensitive or reserved address is ignored, with no flag (R82, R179, R183). -/
def writeIgnored (s : State) : Result := .next s

/-- Busy protection (R141): while busy the write is discarded and flagged, otherwise it gives `written`. -/
def busyProtected (s written : State) : Result := if busy s then .next s.noteWrbusy else .next written

/-- `ERRCODE` of a cause: `KIND` = `0x01` `InvalidParameters`, `CAUSE` in [15:8] (R321). -/
def errcodeOf (cause : BitVec 8) : BitVec 16 := cause ++ 0x01#8

/-- Taking the exception `InvalidParameters(c, info)` (R219, R324). -/
def State.raiseInvalidParameters (cause : BitVec 8) (info : Word) (s : State) : State :=
  { s with
    state := .fault, errcode := errcodeOf cause, errinfo := info,
    nsps := 0#16, ntot := 0#32, fcw0 := 0#32, ipend := s.ipend ||| errIp }

/-- The return from the exception (R194, R325): the sticky flags are cleared in every state; in `FAULT` the block goes to
`IDLE` and the fault record is cleared. -/
def State.clearError (s : State) : State :=
  match s.state with
  | .fault => { s with wrbusy := false, cmderr := false, state := .idle, errcode := 0#16, errinfo := 0#32 }
  | .idle => { s with wrbusy := false, cmderr := false }
  | .check => { s with wrbusy := false, cmderr := false }
  | .run => { s with wrbusy := false, cmderr := false }

/-- Every element of R20 except `SYM` takes its reset value (R58); `SYM` and the model's own fields stay. -/
def State.resetRegisters (s : State) : State :=
  { State.reset with sym := s.sym, inputs := s.inputs, rdata := s.rdata, delivered := s.delivered }

/-- A hardware reset (R360, R361): the reset values, and in `SYM` whatever the draw says (R59). The consumer keeps what
it has taken (R279). -/
def State.hardReset (draw : Memory) (s : State) : State := { s.resetRegisters with sym := Memory.ofCells draw }

/-- The holding register is emptied (R270): only `OUT_VALID` falls. -/
def State.take (d : Delivery) (s : State) : State := { s with outValid := false, delivered := d :: s.delivered }

end Sys2Proof.Machine
end

