-- ==== Sys2Proof/Machine/Check.lean ====
section
/-! DEFINITION. The engine step `CHECK` (42_engine_check.md): validation of the arguments and derivation of `NSPS`,
`NTOT` and `FCW0`. -/

namespace Sys2Proof.Machine

/-- `(s32(SRATE) * TSYM) div 1000000` (R213), for a positive rate. -/
def samplesPerSymbol (srate tsym : Word) : Nat := (s32 srate).toNat * tsym.toNat / 1000000

/-- `((BASEF * 2^32) div (1000 * s32(SRATE))) mod 2^32` (R221), for a positive rate. -/
def baseIncrement (basef srate : Word) : Word :=
  BitVec.ofNat 32 (basef.toNat * 2 ^ Config.wPhi / (1000 * (s32 srate).toNat))

/-- The least index below `n` whose symbol is not below `tones` (R218). -/
def firstBadSymbol (sym : Memory) (tones n : Nat) : Option Nat :=
  (List.range n).find? (fun i => tones ≤ (sym.read i).toNat)

/-- `min(v, 0xFFFFFFFF)` as a word (R214). -/
def saturate32 (v : Nat) : Word := BitVec.ofNat 32 (min v 0xFFFFFFFF)

/-- The tests of R212 to R218 in the order of their causes (R211): the first that fails gives the cause and the datum. -/
def checkFailure (s : State) : Option (BitVec 8 × Word) :=
  let nsps := samplesPerSymbol s.srate s.tsym
  if s32 s.srate ≤ 0 then some (1#8, 0#32)
  else if nsps < 1 then some (2#8, 0#32)
  else if Config.nspsMax < nsps then some (3#8, saturate32 nsps)
  else if s.bt.toNat = 0 ∨ Config.btMax < s.bt.toNat then some (4#8, 0#32)
  else if s.nsym.toNat = 0 ∨ Config.nsymMax < s.nsym.toNat then some (5#8, 0#32)
  else if s.tones.toNat = 0 ∨ Config.tonesMax < s.tones.toNat then some (6#8, 0#32)
  else (firstBadSymbol s.sym s.tones.toNat s.nsym.toNat).map (fun i => (7#8, BitVec.ofNat 32 i))

/-- The effects when all tests pass (R220 to R222). -/
def State.beginRun (s : State) : State :=
  { s with
    nsps := BitVec.ofNat 16 (samplesPerSymbol s.srate s.tsym),
    ntot := BitVec.ofNat 32 (s.nsym.toNat * samplesPerSymbol s.srate s.tsym),
    fcw0 := baseIncrement s.basef s.srate,
    ncnt := 0#32, kidx := 0#9, jidx := 0#16, phase := 0#32,
    outValid := false, outLast := false, state := .run }

/-- `CHECK` is enabled iff `STATE` = `CHECK` (R210). -/
def checkEnabled (s : State) : Bool :=
  match s.state with
  | .check => true
  | .idle => false
  | .run => false
  | .fault => false

/-- The step `CHECK`, whole (R223). -/
def execCheck (s : State) : Result :=
  if checkEnabled s then
    match checkFailure s with
    | some (cause, info) => .next (s.raiseInvalidParameters cause info)
    | none => .next s.beginRun
  else .refused (.notEnabled "CHECK")

end Sys2Proof.Machine
end

