-- ==== Sys2Proof/Machine/Commands.lean ====
section
/-! DEFINITION. The commands, writes to `CMD` (41_commands.md). Each is performed in every state, takes effect in the one
step of its write, and raises no fault (R190). -/

namespace Sys2Proof.Machine

/-- `CMD.NOP` (R191): nothing. -/
def execCmdNop (s : State) : Result := .next s

/-- `CMD.START` (R192): accepted in `IDLE` only, else refused with `CMDERR` and `HAZ_IP`. The record of what has been
delivered begins anew with the run (log entry 5). -/
def execCmdStart (s : State) : Result :=
  match s.state with
  | .idle => .next { s with state := .check, done := false, delivered := [] }
  | .check => .next s.noteCmderr
  | .run => .next s.noteCmderr
  | .fault => .next s.noteCmderr

/-- `CMD.ABORT` (R193): in `CHECK` and `RUN` the run ends and the holding register is cleared. -/
def execCmdAbort (s : State) : Result :=
  .next (if busy s then { s with state := .idle, out := 0#32, outValid := false, outLast := false } else s)

/-- `CMD.CLRERR` (R194): the return from the exception. -/
def execCmdClrerr (s : State) : Result := .next s.clearError

/-- `CMD.SRESET` (R195): the reset values everywhere but in `SYM`. -/
def execCmdSreset (s : State) : Result := .next s.resetRegisters

/-- `CMD.RSVD` (R196): no command; `CMDERR` and `HAZ_IP`. -/
def execCmdRsvd (_imm : Word) (s : State) : Result := .next s.noteCmderr

end Sys2Proof.Machine
end

