-- ==== Sys2Proof/Machine/Pulse.lean ====
section
/-! DEFINITION. The quantised Gaussian frequency pulse `PULSEQ` (43_engine_emit.md R232, R233), evaluated in integer
arithmetic with 160 fractional bits (log entry 7). -/

namespace Sys2Proof.Machine

/-- Fractional bits of the fixed-point evaluation of the pulse. -/
def pulseBits : Nat := 160

/-- 1 in that format. -/
def pulseOne : Nat := 2 ^ pulseBits

/-- `floor(K * 2^160)` with `K = pi * sqrt(2 / ln 2)` (R232). -/
def pulseK : Nat := 0x5562157851e15eed1616c1e79f2e482705af97985

/-- `floor(2 / sqrt(pi) * 2^160)`, the factor of `erf` (R10). -/
def erfFactor : Nat := 0x120dd750429b6d11ae3a914fed7fd8688281341d7

/-- Partial sum of a power series with positive terms in fixed point: from the term `t` of index `n` on, each next term
is the last times `num / den n`. -/
def seriesSum (num : Nat) (den : Nat → Nat) : Nat → Nat → Nat → Nat → Nat
  | 0, _, _, acc => acc
  | fuel + 1, n, t, acc => seriesSum num den fuel (n + 1) (t * num / (pulseOne * den n)) (acc + t)

/-- `exp(x²)` as the sum of `x^(2n) / n!`, given `y = x²`. -/
def expSum (y : Nat) : Nat := seriesSum y (fun n => n + 1) 300 0 pulseOne 0

/-- The sum of `2^n * x^(2n+1) / (1 * 3 * ... * (2n+1))`, which is `sqrt(pi)/2 * exp(x²) * erf(x)`, given `x` and
`y = x²`. -/
def erfSum (x y : Nat) : Nat := seriesSum (2 * y) (fun n => 2 * n + 3) 300 0 x 0

/-- `erf(x)` for `x >= 0` (R10), both in fixed point. From `x = 10` on it is 1 to within 2^-148; the minimum only keeps
rounding from passing 1. -/
def erfMag (x : Nat) : Nat :=
  if 10 * pulseOne ≤ x then pulseOne
  else min pulseOne (erfFactor * erfSum x (x * x / pulseOne) / expSum (x * x / pulseOne))

/-- `K * b * d / N` with `b = B / 256` (R232): the magnitude of an argument of `erf`, `d` a distance in samples. -/
def pulseArg (N B d : Nat) : Nat := pulseK * B * d / (256 * N)

/-- `erf(K * b * d / N)` for a signed distance of `d` samples; `erf` is odd. -/
def erfAt (N B : Nat) (d : Int) : Int :=
  if 0 ≤ d then (erfMag (pulseArg N B d.natAbs) : Int) else -(erfMag (pulseArg N B d.natAbs) : Int)

/-- `PULSEQ(N, B, i)` (R233): with `t = i / N - 3/2` the two arguments of R232 are `t + 1/2 = (i - N) / N` and
`t - 1/2 = (i - 2N) / N`; `floor(2^15 * p + 1/2)`. -/
def pulseq (N B i : Nat) : Nat :=
  ((2 ^ Config.wPq * (erfAt N B ((i : Int) - N) - erfAt N B ((i : Int) - 2 * N)) + pulseOne) / (2 * pulseOne)).toNat

end Sys2Proof.Machine
end

