-- ==== Sys2Proof/Machine/Sine.lean ====
section
/-! DEFINITION. The function `SINF` from a 32-bit phase word to a binary32 pattern (43_engine_emit.md R240, 00_scope.md
R10), evaluated in integer arithmetic. The value is the correctly rounded sine: the fixed-point evaluation carries 120
fractional bits, while no phase's sine lies nearer than 2^-31 unit of the last binary32 place to a rounding boundary
(log entry 6). -/

namespace Sys2Proof.Machine

/-- Fractional bits of the fixed-point evaluation of the sine. -/
def sineBits : Nat := 120

/-- 1 in that format. -/
def sineOne : Nat := 2 ^ sineBits

/-- `floor(pi * 2^120)`. -/
def sinePi : Nat := 0x3243f6a8885a308d313198a2e037073

/-- `1 - x²/((2n)(2n+1)) * (1 - x²/((2n+2)(2n+3)) * ...)` to `fuel` levels, with `y` the square of `x`: the nested form
of the sine's power series divided by `x`. -/
def sineSeries (y : Nat) : Nat → Nat → Nat
  | 0, _ => sineOne
  | fuel + 1, n => sineOne - y * sineSeries y fuel (n + 1) / (sineOne * ((2 * n) * (2 * n + 1)))

/-- `sin(2 * pi * q / 2^32)` in fixed point for `q` from 1 to 2^30 (an angle up to a quarter turn). The minimum only keeps
the last units of rounding from passing 1. -/
def sineQuarter (q : Nat) : Nat :=
  let x := sinePi * q / 2 ^ 31
  min sineOne (x * sineSeries (x * x / sineOne) 20 1 / sineOne)

/-- Nearest integer to `m / 2^sh`, ties to even. -/
def roundShift (m sh : Nat) : Nat :=
  let lo := m / 2 ^ sh
  let r := m % 2 ^ sh
  if 2 ^ sh < 2 * r then lo + 1
  else if 2 * r = 2 ^ sh then lo + lo % 2
  else lo

/-- The binary32 pattern nearest the real `m / 2^120` for `m` from 1 to 2^120, ties to even (R10 `RNE32`). A 24-bit
significand is `m` shifted to bit 23; its bit 23 adds 1 to the exponent field, and so does a carry out of the rounding. -/
def rne32 (m : Nat) : Nat :=
  let e := Nat.log2 m
  let significand := if e < 23 then m * 2 ^ (23 - e) else roundShift m (e - 23)
  (e + 126 - sineBits) * 2 ^ 23 + significand

/-- The phase folded into the first quarter turn (R241 S3, S4): for `psi` from 1 to 2^31 - 1. -/
def foldQuarter (psi : Nat) : Nat := if 2 ^ 30 < psi then 2 ^ 31 - psi else psi

/-- `SINF` (R240): `+0.0` at the two zero crossings, otherwise the sine of `2 * pi * phi / 2^32` rounded once. The second
half turn is the first one with the sign bit set. -/
def sinf (phi : Word) : Word :=
  let p := phi.toNat
  if p = 0 ∨ p = 2 ^ 31 then 0x00000000#32
  else if p < 2 ^ 31 then BitVec.ofNat 32 (rne32 (sineQuarter (foldQuarter p)))
  else BitVec.ofNat 32 (2 ^ 31 + rne32 (sineQuarter (foldQuarter (2 ^ 32 - p))))

end Sys2Proof.Machine
end

