-- ==== Sys2Proof/Machine/Emit.lean ====
section
/-! DEFINITION. The engine steps `EMIT` and `FINISH` (43_engine_emit.md), and which engine step a state enables
(30_encoding.md R119). -/

namespace Sys2Proof.Machine

/-- The three symbols that shape a sample (R231). -/
structure SymbolWindow where
  prev : Nat
  cur : Nat
  next : Nat
deriving DecidableEq, Repr

/-- The window of symbol `k` in a sequence of `nsym` symbols; the first and the last symbol are repeated at the edges
(R231). -/
def symbolWindow (sym : Memory) (nsym k : Nat) : SymbolWindow where
  prev := if 0 < k then (sym.read (k - 1)).toNat else (sym.read 0).toNat
  cur := (sym.read k).toNat
  next := if k + 1 < nsym then (sym.read (k + 1)).toNat else (sym.read (nsym - 1)).toNat

/-- The modulation sum `M` (R235) at sample `j` of a symbol of `N` samples. -/
def modulationSum (w : SymbolWindow) (N B j : Nat) : Nat :=
  w.prev * pulseq N B (j + 2 * N) + w.cur * pulseq N B (j + N) + w.next * pulseq N B j

/-- `DMOD = (M * 2^17) div NSPS` (R236): `M` has 15 fractional bits, and the tone spacing is `H_MOD` turns a symbol. -/
def modulationIncrement (M N : Nat) : Nat := Config.hMod * M * 2 ^ (Config.wPhi - Config.wPq) / N

/-- `DPHI = (FCW0 + DMOD) mod 2^32` (R237). -/
def phaseIncrement (fcw0 : Word) (dmod : Nat) : Word := BitVec.ofNat 32 (fcw0.toNat + dmod)

/-- The phase increment of sample `j` of symbol `k` (R231, R235 to R237). -/
def sampleIncrement (sym : Memory) (nsym N B : Nat) (fcw0 : Word) (k j : Nat) : Word :=
  phaseIncrement fcw0 (modulationIncrement (modulationSum (symbolWindow sym nsym k) N B j) N)

/-- `EMIT` is enabled iff `STATE` = `RUN` and `OUT_VALID` = 0 and `NCNT < NTOT` (R230). -/
def emitEnabled (s : State) : Bool :=
  match s.state with
  | .run => !s.outValid && decide (s.ncnt.toNat < s.ntot.toNat)
  | .idle => false
  | .check => false
  | .fault => false

/-- The domain R231, R233 and R235 are given for (R56 I2): a symbol of the sequence, a sample of the symbol, a legal
`BT`. `JIDX < NSPS` makes `NSPS` at least 1. -/
def emitDomain (s : State) : Bool :=
  decide (s.kidx.toNat < s.nsym.toNat) && decide (s.nsym.toNat ≤ Config.nsymMax) &&
    decide (s.jidx.toNat < s.nsps.toNat) && decide (1 ≤ s.bt.toNat) && decide (s.bt.toNat ≤ Config.btMax)

/-- The increment `DPHI` of the sample a state is about to produce. -/
def State.nextIncrement (s : State) : Word :=
  sampleIncrement s.sym s.nsym.toNat s.nsps.toNat s.bt.toNat s.fcw0 s.kidx.toNat s.jidx.toNat

/-- Whether the sample about to be produced ends its symbol: `JIDX + 1 = NSPS` (R243). -/
def State.endsSymbol (s : State) : Bool := decide (s.jidx.toNat + 1 = s.nsps.toNat)

/-- Whether the sample about to be produced is the last: `NCNT = NTOT - 1` (R244). -/
def State.endsRun (s : State) : Bool := decide (s.ncnt.toNat + 1 = s.ntot.toNat)

/-- The effects of `EMIT` (R239, R242 to R245): the sample of the phase before the step, the phase advanced after it, the
sequencer one sample on. -/
def State.emitSample (s : State) : State :=
  { s with
    out := sinf s.phase, outLast := s.endsRun, outValid := true,
    phase := s.phase + s.nextIncrement,
    ncnt := s.ncnt + 1#32,
    jidx := if s.endsSymbol then 0#16 else s.jidx + 1#16,
    kidx := if s.endsSymbol then s.kidx + 1#9 else s.kidx }

/-- The step `EMIT`, whole (R245). -/
def execEmit (s : State) : Result :=
  if emitEnabled s then
    if emitDomain s then .next s.emitSample else .fault .emitOutsideRun
  else .refused (.notEnabled "EMIT")

/-- `FINISH` is enabled iff `STATE` = `RUN` and `OUT_VALID` = 0 and `NCNT = NTOT` (R246). -/
def finishEnabled (s : State) : Bool :=
  match s.state with
  | .run => !s.outValid && decide (s.ncnt = s.ntot)
  | .idle => false
  | .check => false
  | .fault => false

/-- The step `FINISH` (R246). -/
def execFinish (s : State) : Result :=
  if finishEnabled s then .next { s with state := .idle, done := true, ipend := s.ipend ||| doneIp }
  else .refused (.notEnabled "FINISH")

/-- The engine step a state enables, if any (R119). -/
def engineSelect (s : State) : Option Instr :=
  if checkEnabled s then some .check
  else if emitEnabled s then some .emit
  else if finishEnabled s then some .finish
  else none

end Sys2Proof.Machine
end

