-- ==== Sys2Proof/Machine/HostAccess.lean ====
section
/-! DEFINITION. Host register reads and writes (40_host_access.md): one meaning per operation, over the shared
operations. None raises a fault; each is enabled in every state (R140). -/

namespace Sys2Proof.Machine

/-! Identification registers (R142 to R144). -/

/-- `RD.ID` (R142). -/
def execRdId (s : State) : Result := readReturns Config.idValue s

/-- `RD.VERSION` (R143). -/
def execRdVersion (s : State) : Result := readReturns Config.versionValue s

/-- `RD.CAP` (R144). -/
def execRdCap (s : State) : Result := readReturns Config.capValue s

/-! Control, status, error and interrupt registers (R145 to R154). -/

/-- `RD.CTRL` (R145): bit 0 is `SINKSEL`. -/
def execRdCtrl (s : State) : Result := readReturns ((BitVec.ofBool s.sinksel).setWidth 32) s

/-- `WR.CTRL` (R146), busy-protected: bit 0 goes to `SINKSEL`, the rest is ignored. -/
def execWrCtrl (imm : Word) (s : State) : Result := busyProtected s { s with sinksel := ctrlOperand imm }

/-- `RD.CMD` (R147): `CMD` holds no state; reading performs no command. -/
def execRdCmd (s : State) : Result := readReturns 0x00000000#32 s

/-- `RD.STATUS` (R148): a snapshot; the read clears nothing. -/
def execRdStatus (s : State) : Result := readReturns (statusWord s) s

/-- `RD.ERRCODE` (R149). -/
def execRdErrcode (s : State) : Result := readReturns (s.errcode.setWidth 32) s

/-- `RD.ERRINFO` (R150). -/
def execRdErrinfo (s : State) : Result := readReturns s.errinfo s

/-- `RD.IEN` (R151). -/
def execRdIen (s : State) : Result := readReturns (s.ien.setWidth 32) s

/-- `WR.IEN` (R152), performed in every state. -/
def execWrIen (imm : Word) (s : State) : Result := .next { s with ien := irqOperand imm }

/-- `WR.IPEND` (R153), write one to clear, performed in every state. -/
def execWrIpend (imm : Word) (s : State) : Result := .next { s with ipend := s.ipend &&& ~~~(irqOperand imm) }

/-- `RD.IPEND` (R154): the read clears nothing. -/
def execRdIpend (s : State) : Result := readReturns (s.ipend.setWidth 32) s

/-! Parameter registers (R155 to R166): all 32 bits are stored and returned, no legality test. -/

/-- `RD.SRATE` (R155): the raw pattern. -/
def execRdSrate (s : State) : Result := readReturns s.srate s

/-- `WR.SRATE` (R156), busy-protected. -/
def execWrSrate (imm : Word) (s : State) : Result := busyProtected s { s with srate := imm }

/-- `RD.TSYM` (R157). -/
def execRdTsym (s : State) : Result := readReturns s.tsym s

/-- `WR.TSYM` (R158), busy-protected. -/
def execWrTsym (imm : Word) (s : State) : Result := busyProtected s { s with tsym := imm }

/-- `RD.BASEF` (R159). -/
def execRdBasef (s : State) : Result := readReturns s.basef s

/-- `WR.BASEF` (R160), busy-protected. -/
def execWrBasef (imm : Word) (s : State) : Result := busyProtected s { s with basef := imm }

/-- `RD.BT` (R161): all 32 bits. -/
def execRdBt (s : State) : Result := readReturns s.bt s

/-- `WR.BT` (R162), busy-protected. -/
def execWrBt (imm : Word) (s : State) : Result := busyProtected s { s with bt := imm }

/-- `RD.NSYM` (R163). -/
def execRdNsym (s : State) : Result := readReturns s.nsym s

/-- `WR.NSYM` (R164), busy-protected. -/
def execWrNsym (imm : Word) (s : State) : Result := busyProtected s { s with nsym := imm }

/-- `RD.TONES` (R165). -/
def execRdTones (s : State) : Result := readReturns s.tones s

/-- `WR.TONES` (R166), busy-protected. -/
def execWrTones (imm : Word) (s : State) : Result := busyProtected s { s with tones := imm }

/-! Derived, sequencer and datapath registers (R167 to R173). -/

/-- `RD.NSPS` (R167). -/
def execRdNsps (s : State) : Result := readReturns (s.nsps.setWidth 32) s

/-- `RD.NTOT` (R168). -/
def execRdNtot (s : State) : Result := readReturns s.ntot s

/-- `RD.FCW0` (R169). -/
def execRdFcw0 (s : State) : Result := readReturns s.fcw0 s

/-- `RD.NCNT` (R170). -/
def execRdNcnt (s : State) : Result := readReturns s.ncnt s

/-- `RD.KIDX` (R171). -/
def execRdKidx (s : State) : Result := readReturns (s.kidx.setWidth 32) s

/-- `RD.JIDX` (R172). -/
def execRdJidx (s : State) : Result := readReturns (s.jidx.setWidth 32) s

/-- `RD.PHASE` (R173): the phase of the next sample. -/
def execRdPhase (s : State) : Result := readReturns s.phase s

/-! Writes to read-only and read-sensitive registers (R179): ignored, no flag; one meaning per row of the table. -/

/-- `WR.RO` on `ID` (R179). -/
def execWrRoId (_imm : Word) (s : State) : Result := writeIgnored s

/-- `WR.RO` on `VERSION` (R179). -/
def execWrRoVersion (_imm : Word) (s : State) : Result := writeIgnored s

/-- `WR.RO` on `CAP` (R179). -/
def execWrRoCap (_imm : Word) (s : State) : Result := writeIgnored s

/-- `WR.RO` on `STATUS` (R179). -/
def execWrRoStatus (_imm : Word) (s : State) : Result := writeIgnored s

/-- `WR.RO` on `ERRCODE` (R179). -/
def execWrRoErrcode (_imm : Word) (s : State) : Result := writeIgnored s

/-- `WR.RO` on `ERRINFO` (R179). -/
def execWrRoErrinfo (_imm : Word) (s : State) : Result := writeIgnored s

/-- `WR.RO` on `NSPS` (R179). -/
def execWrRoNsps (_imm : Word) (s : State) : Result := writeIgnored s

/-- `WR.RO` on `NTOT` (R179). -/
def execWrRoNtot (_imm : Word) (s : State) : Result := writeIgnored s

/-- `WR.RO` on `FCW0` (R179). -/
def execWrRoFcw0 (_imm : Word) (s : State) : Result := writeIgnored s

/-- `WR.RO` on `NCNT` (R179). -/
def execWrRoNcnt (_imm : Word) (s : State) : Result := writeIgnored s

/-- `WR.RO` on `KIDX` (R179). -/
def execWrRoKidx (_imm : Word) (s : State) : Result := writeIgnored s

/-- `WR.RO` on `JIDX` (R179). -/
def execWrRoJidx (_imm : Word) (s : State) : Result := writeIgnored s

/-- `WR.RO` on `PHASE` (R179). -/
def execWrRoPhase (_imm : Word) (s : State) : Result := writeIgnored s

/-- `WR.RO` on `OUTPEEK` (R179). -/
def execWrRoOutpeek (_imm : Word) (s : State) : Result := writeIgnored s

/-- `WR.RO` on `OUTPOP` (R179). -/
def execWrRoOutpop (_imm : Word) (s : State) : Result := writeIgnored s

/-! Symbol memory (R180, R181). -/

/-- `RD.SYM` (R180): the entry, zero-extended. -/
def execRdSym (idx : Byte) (s : State) : Result := readReturns ((s.sym.read idx.toNat).setWidth 32) s

/-- `WR.SYM` (R181), busy-protected, a saturating store. -/
def execWrSym (idx : Byte) (val : Word) (s : State) : Result :=
  busyProtected s { s with sym := s.sym.write idx.toNat (symOperand val) }

/-! Reserved addresses (R182, R183). -/

/-- `RD.RSVD` (R182): 0. -/
def execRdRsvd (_addr : Addr) (s : State) : Result := readReturns 0x00000000#32 s

/-- `WR.RSVD` (R183): ignored, also while busy. -/
def execWrRsvd (_addr : Addr) (_imm : Word) (s : State) : Result := writeIgnored s

end Sys2Proof.Machine
end

