-- ==== Sys2Proof/Machine/Output.lean ====
section
/-! DEFINITION. The output side (44_output.md): the sink step `POP` and the two register views of the holding
register. -/

namespace Sys2Proof.Machine

/-- `POP` is enabled iff `OUT_VALID` = 1 and `SINKSEL` = 0 (R271). -/
def popEnabled (s : State) : Bool := outTvalid s

/-- `POP` (R271): the sink receives the sample and the last flag. -/
def execPop (s : State) : Result :=
  if popEnabled s then .next (s.take (.beat s.out s.outLast)) else .refused (.notEnabled "POP")

/-- `RD.OUTPEEK` (R273): looks and takes nothing. -/
def execRdOutpeek (s : State) : Result := readReturns (heldWord s) s

/-- `RD.OUTPOP` (R274): with `SINKSEL` = 1 and a sample held, the host takes it; otherwise `NO_DATA` and no change. -/
def execRdOutpop (s : State) : Result :=
  if s.sinksel && s.outValid then readReturns s.out (s.take (.popped s.out)) else readReturns Config.noData s

end Sys2Proof.Machine
end

