-- ==== Sys2Proof/Machine/Dispatch.lean ====
section
/-! DEFINITION. The dispatch: one arm per operation of spec/opcode_table.json. -/

namespace Sys2Proof.Machine

def exec (i : Instr) (s : State) : Host.Outcome State Fault Refusal :=
  match i with
  | .cmdNop => Sys2Proof.Machine.execCmdNop s
  | .cmdStart => Sys2Proof.Machine.execCmdStart s
  | .cmdAbort => Sys2Proof.Machine.execCmdAbort s
  | .cmdClrerr => Sys2Proof.Machine.execCmdClrerr s
  | .cmdSreset => Sys2Proof.Machine.execCmdSreset s
  | .cmdRsvd imm => Sys2Proof.Machine.execCmdRsvd imm s
  | .rdId => Sys2Proof.Machine.execRdId s
  | .wrRoId imm => Sys2Proof.Machine.execWrRoId imm s
  | .rdVersion => Sys2Proof.Machine.execRdVersion s
  | .wrRoVersion imm => Sys2Proof.Machine.execWrRoVersion imm s
  | .rdCap => Sys2Proof.Machine.execRdCap s
  | .wrRoCap imm => Sys2Proof.Machine.execWrRoCap imm s
  | .rdCtrl => Sys2Proof.Machine.execRdCtrl s
  | .wrCtrl imm => Sys2Proof.Machine.execWrCtrl imm s
  | .rdCmd => Sys2Proof.Machine.execRdCmd s
  | .rdStatus => Sys2Proof.Machine.execRdStatus s
  | .wrRoStatus imm => Sys2Proof.Machine.execWrRoStatus imm s
  | .rdErrcode => Sys2Proof.Machine.execRdErrcode s
  | .wrRoErrcode imm => Sys2Proof.Machine.execWrRoErrcode imm s
  | .rdErrinfo => Sys2Proof.Machine.execRdErrinfo s
  | .wrRoErrinfo imm => Sys2Proof.Machine.execWrRoErrinfo imm s
  | .rdIen => Sys2Proof.Machine.execRdIen s
  | .wrIen imm => Sys2Proof.Machine.execWrIen imm s
  | .rdIpend => Sys2Proof.Machine.execRdIpend s
  | .wrIpend imm => Sys2Proof.Machine.execWrIpend imm s
  | .rdSrate => Sys2Proof.Machine.execRdSrate s
  | .wrSrate imm => Sys2Proof.Machine.execWrSrate imm s
  | .rdTsym => Sys2Proof.Machine.execRdTsym s
  | .wrTsym imm => Sys2Proof.Machine.execWrTsym imm s
  | .rdBasef => Sys2Proof.Machine.execRdBasef s
  | .wrBasef imm => Sys2Proof.Machine.execWrBasef imm s
  | .rdBt => Sys2Proof.Machine.execRdBt s
  | .wrBt imm => Sys2Proof.Machine.execWrBt imm s
  | .rdNsym => Sys2Proof.Machine.execRdNsym s
  | .wrNsym imm => Sys2Proof.Machine.execWrNsym imm s
  | .rdTones => Sys2Proof.Machine.execRdTones s
  | .wrTones imm => Sys2Proof.Machine.execWrTones imm s
  | .rdNsps => Sys2Proof.Machine.execRdNsps s
  | .wrRoNsps imm => Sys2Proof.Machine.execWrRoNsps imm s
  | .rdNtot => Sys2Proof.Machine.execRdNtot s
  | .wrRoNtot imm => Sys2Proof.Machine.execWrRoNtot imm s
  | .rdFcw0 => Sys2Proof.Machine.execRdFcw0 s
  | .wrRoFcw0 imm => Sys2Proof.Machine.execWrRoFcw0 imm s
  | .rdNcnt => Sys2Proof.Machine.execRdNcnt s
  | .wrRoNcnt imm => Sys2Proof.Machine.execWrRoNcnt imm s
  | .rdKidx => Sys2Proof.Machine.execRdKidx s
  | .wrRoKidx imm => Sys2Proof.Machine.execWrRoKidx imm s
  | .rdJidx => Sys2Proof.Machine.execRdJidx s
  | .wrRoJidx imm => Sys2Proof.Machine.execWrRoJidx imm s
  | .rdPhase => Sys2Proof.Machine.execRdPhase s
  | .wrRoPhase imm => Sys2Proof.Machine.execWrRoPhase imm s
  | .rdOutpeek => Sys2Proof.Machine.execRdOutpeek s
  | .wrRoOutpeek imm => Sys2Proof.Machine.execWrRoOutpeek imm s
  | .rdOutpop => Sys2Proof.Machine.execRdOutpop s
  | .wrRoOutpop imm => Sys2Proof.Machine.execWrRoOutpop imm s
  | .rdSym idx => Sys2Proof.Machine.execRdSym idx s
  | .wrSym idx val => Sys2Proof.Machine.execWrSym idx val s
  | .rdRsvd addr => Sys2Proof.Machine.execRdRsvd addr s
  | .wrRsvd addr imm => Sys2Proof.Machine.execWrRsvd addr imm s
  | .check => Sys2Proof.Machine.execCheck s
  | .emit => Sys2Proof.Machine.execEmit s
  | .finish => Sys2Proof.Machine.execFinish s
  | .pop => Sys2Proof.Machine.execPop s

end Sys2Proof.Machine
end

