-- ==== Sys2Proof/Machine/Step.lean ====
section
/-! DEFINITION. One step of the machine: the next event from outside, or, with none waiting, the engine (00_scope.md R11,
20_memory.md R91, 30_encoding.md R119, R122, 70_reset_and_hazards.md R378). -/

namespace Sys2Proof.Machine

/-- The event at the head of `inputs` takes its turn. At an engine turn the engine takes its one enabled step (R119); a
turn with none enabled is an error of the trace (R122). With no event waiting the engine moves if it can, and otherwise
the block waits as it is (log entry 3). -/
def step (s : State) : Host.Outcome State Fault Refusal :=
  match s.inputs with
  | [] =>
    match engineSelect s with
    | some i => exec i s
    | none => .next s
  | .host t :: rest => exec (decodeWord t) { s with inputs := rest }
  | .bus a :: rest =>
    match busWord a with
    | .ok t => exec (decodeWord t) { s with inputs := rest }
    | .error r => .refused r
  | .engine :: rest =>
    match engineSelect s with
    | some i => exec i { s with inputs := rest }
    | none => .refused .noEngineStep
  | .sink :: rest => exec .pop { s with inputs := rest }
  | .reset draw :: rest => .next (State.hardReset draw { s with inputs := rest })

/-- The host's next transaction is the word `w` (its bits at and above `nbits` are 0; `T` has 43 bits): it is put before
the events already waiting, so the very next step performs it (log entry 2). -/
def State.withFetchWord (s : State) (nbits w : Nat) : State :=
  { s with inputs := .host (BitVec.ofNat 43 (w % 2 ^ nbits)) :: s.inputs }

end Sys2Proof.Machine
end

