-- ==== Sys2Proof/Safety.lean ====
section
/-! DEFINITION. What a safe run of FSKSYN is: legal arguments, the invariants of 10_state.md R56 and 60_exceptions.md
R343, the waveform as a function of the arguments (43_engine_emit.md R247), and the states a run can reach. -/

namespace Sys2Proof.Machine

/-- The arguments the waveform depends on (R247): neither `TONES` nor `SINKSEL` is one. -/
structure RunArgs where
  srate : Word
  tsym : Word
  basef : Word
  bt : Word
  nsym : Word
  sym : Memory
deriving DecidableEq, Repr

/-- The arguments as they stand in the registers. -/
def State.args (s : State) : RunArgs :=
  { srate := s.srate, tsym := s.tsym, basef := s.basef, bt := s.bt, nsym := s.nsym, sym := s.sym }

/-- Samples per symbol (R213). -/
def RunArgs.nsps (a : RunArgs) : Nat := samplesPerSymbol a.srate a.tsym

/-- Samples of the run (R220). -/
def RunArgs.ntot (a : RunArgs) : Nat := a.nsym.toNat * a.nsps

/-- `DPHI(n)` (R247): the increment of sample `n mod NSPS` of symbol `n div NSPS`. -/
def RunArgs.dphi (a : RunArgs) (n : Nat) : Word :=
  sampleIncrement a.sym a.nsym.toNat a.nsps a.bt.toNat (baseIncrement a.basef a.srate) (n / a.nsps) (n % a.nsps)

/-- `PHI(n)` (R247): the sum of the increments of the samples before `n`, modulo one turn. -/
def RunArgs.phi (a : RunArgs) : Nat → Word
  | 0 => 0#32
  | n + 1 => a.phi n + a.dphi n

/-- `WAVE(n)` (R247). -/
def RunArgs.wave (a : RunArgs) (n : Nat) : Word := sinf (a.phi n)

/-- How sample `n` of a run leaves the block: as a beat to the sink, the last one flagged, or as a word popped by the
host (R271, R274, R275). -/
def State.deliveryOf (s : State) (n : Nat) : Delivery :=
  if s.sinksel then .popped (s.args.wave n) else .beat (s.args.wave n) (decide (n + 1 = s.args.ntot))

/-- The arguments `CHECK` accepts (R212 to R218). -/
structure Legal (s : State) : Prop where
  rate : 0 < s32 s.srate
  nsps_pos : 1 ≤ samplesPerSymbol s.srate s.tsym
  nsps_max : samplesPerSymbol s.srate s.tsym ≤ 65535
  bt_pos : 1 ≤ s.bt.toNat
  bt_max : s.bt.toNat ≤ 0xFFFF
  nsym_pos : 1 ≤ s.nsym.toNat
  nsym_max : s.nsym.toNat ≤ 256
  tones_pos : 1 ≤ s.tones.toNat
  tones_max : s.tones.toNat ≤ 8
  symbols : ∀ i, i < s.nsym.toNat → (s.sym.read i).toNat < s.tones.toNat

/-- What holds in `RUN` (R56 I2), with the derived registers as `CHECK` left them (R213, R221). -/
structure RunInv (s : State) : Prop where
  legal : Legal s
  nsps_eq : s.nsps.toNat = samplesPerSymbol s.srate s.tsym
  ntot_eq : s.ntot.toNat = s.nsym.toNat * s.nsps.toNat
  fcw0_eq : s.fcw0 = baseIncrement s.basef s.srate
  position : s.ncnt.toNat = s.kidx.toNat * s.nsps.toNat + s.jidx.toNat
  jidx_lt : s.jidx.toNat < s.nsps.toNat
  ncnt_le : s.ncnt.toNat ≤ s.ntot.toNat
  kidx_le : s.kidx.toNat ≤ s.nsym.toNat

/-- The record of a fault in `FAULT` (R343). -/
structure FaultInv (s : State) : Prop where
  kind : s.errcode.extractLsb' 0 8 = 0x01#8
  cause_pos : 1 ≤ (s.errcode.extractLsb' 8 8).toNat
  cause_max : (s.errcode.extractLsb' 8 8).toNat ≤ 7
  nsps_zero : s.nsps = 0#16
  ntot_zero : s.ntot = 0#32
  fcw0_zero : s.fcw0 = 0#32

/-- The invariants of the block: I1 to I5 of R56, R343, and the canonical form of the symbol memory. -/
structure Inv (s : State) : Prop where
  mem : s.sym.wf
  held : s.outValid = true → s.state = .run
  inRun : s.state = .run → RunInv s
  faultIff : s.state = .fault ↔ s.errcode ≠ 0#16
  inFault : s.state = .fault → FaultInv s
  noInfo : s.state ≠ .fault → s.errinfo = 0#32
  lastHeld : s.outValid = true → s.outLast = true → s.ncnt = s.ntot
  doneIdle : s.done = true → s.state = .idle

/-- Samples already taken: `NCNT - OUT_VALID` (R170). -/
def State.taken (s : State) : Nat := if s.outValid then s.ncnt.toNat - 1 else s.ncnt.toNat

/-- What holds of the samples in `RUN` (R96, R247, R275): the phase is that of the next sample, exactly the samples taken
so far have left the block, in order and each once, and the one held is the next to leave. -/
structure WaveInv (s : State) : Prop where
  fresh : s.state = .check → s.delivered = []
  phase_eq : s.state = .run → s.phase = s.args.phi s.ncnt.toNat
  taken_eq : s.state = .run → s.delivered.reverse = (List.range s.taken).map s.deliveryOf
  held_eq : s.state = .run → s.outValid = true →
    1 ≤ s.ncnt.toNat ∧ s.out = s.args.wave (s.ncnt.toNat - 1) ∧ s.outLast = decide (s.ncnt.toNat = s.ntot.toNat)

/-- The mnemonics of the writes to the busy-protected set (20_memory.md R88). -/
def busyProtectedMnemonics : List String :=
  ["WR.CTRL", "WR.SRATE", "WR.TSYM", "WR.BASEF", "WR.BT", "WR.NSYM", "WR.TONES", "WR.SYM"]

/-- The operations that set a sticky hazard flag (10_state.md R31, R53): a busy-protected write while busy (R141), a
reserved command (R196), a `START` outside `IDLE` (R192). -/
def Hazard (i : Instr) (s : State) : Prop :=
  ((s.state = .check ∨ s.state = .run) ∧ i.mnemonic ∈ busyProtectedMnemonics) ∨
    i.mnemonic = "CMD.RSVD" ∨ (i = .cmdStart ∧ s.state ≠ .idle)

/-- The states a run can reach: from a hardware reset with any contents of `SYM` and any events to come. -/
inductive Reachable : State → Prop where
  | start (draw : Memory) (events : List Event) :
      Reachable (State.hardReset draw { State.reset with inputs := events })
  | next {s t : State} (h : Reachable s) (hstep : step s = .next t) : Reachable t

/-- The turn that takes a held sample: the sink's, or the host's read of `OUTPOP` (R123 `drain`, `take`). -/
def State.takeTurn (s : State) : Event := if s.sinksel then .host 0x02100000000#43 else .sink

/-- `n` times an engine turn and a taking (R379: emit, take, emit, take, ...). -/
def alternating (take : Event) : Nat → List Event
  | 0 => []
  | n + 1 => .engine :: take :: alternating take n

/-- The value of a binary32 pattern that is `+0.0` or normal (30_encoding.md R118): sign [31], exponent [30:23] with bias
127, fraction [22:0]. -/
def binary32Value (w : Word) : Rat :=
  let exponent := (w.extractLsb' 23 8).toNat
  let magnitude : Rat :=
    if exponent = 0 then 0 else (2 ^ 23 + (w.extractLsb' 0 23).toNat : Rat) * 2 ^ exponent / 2 ^ 150
  if w.getLsbD 31 then -magnitude else magnitude

end Sys2Proof.Machine
end

