-- ==== Sys2Proof/Certificates/Slice0/Obligations.lean ====
section
/-! DEFINITION. The statements for the provers. Each docstring names the rule of spec/ it formalises. -/

open Sys2Proof Sys2Proof.Machine

/-! ## Encoding and stepping -/

/-- R110 to R113, R120: no bit of an operand is dropped. -/
def Obligations.DecodeOfEncodeIsIdentity : Prop :=
  ∀ (i : Instr) (t : TWord), i.wf = true → encode i = some t → decodeWord t = i

/-- R110, R120: every word decodes to a well-formed operation, whose own word is the given one with a read's ignored
`DATA` written as 0. -/
def Obligations.EncodeOfDecodeIsCanonical : Prop :=
  ∀ t : TWord, (decodeWord t).wf = true ∧
    encode (decodeWord t) = some (if tW t = 1#1 then t else mkT 0#1 (tAddr t) 0#32)

/-- R120: the table with its priorities selects exactly one row for every word, the row of the decoded operation. -/
def Obligations.EveryWordSelectsExactlyOneRow : Prop :=
  ∀ t : TWord, ∃ r ∈ opTable, r.winsIn opTable t = true ∧ r.mnemonic = (decodeWord t).mnemonic ∧
    ∀ q ∈ opTable, q.winsIn opTable t = true → q = r

/-- R125, R113: the worked encodings. -/
def Obligations.WorkedEncodingsDecode : Prop :=
  decodeWord 0x00500000000#43 = .rdStatus ∧ decodeWord 0x41000002EE0#43 = .wrSrate 12000#32 ∧
  decodeWord 0x41300000200#43 = .wrBt 0x200#32 ∧ decodeWord 0x40401000000#43 = .cmdStart ∧
  decodeWord 0x50500000007#43 = .wrSym 5#8 7#32 ∧ decodeWord 0x1FF00000000#43 = .rdSym 255#8 ∧
  decodeWord 0x02100000000#43 = .rdOutpop ∧ decodeWord 0x40900000007#43 = .wrIpend 7#32 ∧
  decodeWord 0x40401000001#43 = .cmdRsvd 0x01000001#32 ∧ decodeWord 0x40400000000#43 = .cmdNop ∧
  decodeWord 0x40402000000#43 = .cmdAbort ∧ decodeWord 0x40403000000#43 = .cmdClrerr ∧
  decodeWord 0x40404000000#43 = .cmdSreset

/-- R140, R120: a step whose next event is a host transaction performs the decoded operation, with the event consumed
and nothing else around it; `withFetchWord` places such an event (the input list is the model's, log entry 2). -/
def Obligations.StepPerformsTheTransaction : Prop :=
  (∀ (s : State) (t : TWord) (rest : List Event), s.inputs = .host t :: rest →
    step s = exec (decodeWord t) { s with inputs := rest }) ∧
  (∀ (s : State) (i : Instr) (t : TWord) (rest : List Event), i.wf = true → encode i = some t →
    s.inputs = .host t :: rest → step s = exec i { s with inputs := rest }) ∧
  (∀ (s : State) (w : Nat), w < 2 ^ 43 → step (s.withFetchWord 48 w) = exec (decodeWord (BitVec.ofNat 43 w)) s)

/-- R119, R122, R378: engine and sink turns; with no event waiting the engine moves if it can, else the block waits
(log entries 2, 3 and 9). -/
def Obligations.TurnsOfEngineAndSink : Prop :=
  ∀ (s : State) (rest : List Event),
    (s.inputs = .sink :: rest → step s = exec .pop { s with inputs := rest }) ∧
    (∀ i, s.inputs = .engine :: rest → engineSelect s = some i → step s = exec i { s with inputs := rest }) ∧
    (s.inputs = .engine :: rest → engineSelect s = none → step s = .refused .noEngineStep) ∧
    (∀ i, s.inputs = [] → engineSelect s = some i → step s = exec i s) ∧
    (s.inputs = [] → engineSelect s = none → step s = .next s)

/-- R119: the selection conditions; at most one engine operation is enabled, and the engine's choice is that one. -/
def Obligations.EngineSelectionIsByState : Prop :=
  ∀ s : State,
    (engineSelect s = some .check ↔ s.state = .check) ∧
    (engineSelect s = some .emit ↔ s.state = .run ∧ s.outValid = false ∧ s.ncnt.toNat < s.ntot.toNat) ∧
    (engineSelect s = some .finish ↔ s.state = .run ∧ s.outValid = false ∧ s.ncnt = s.ntot) ∧
    (popEnabled s = true ↔ s.outValid = true ∧ s.sinksel = false) ∧
    ¬ (checkEnabled s = true ∧ emitEnabled s = true) ∧ ¬ (checkEnabled s = true ∧ finishEnabled s = true) ∧
    ¬ (emitEnabled s = true ∧ finishEnabled s = true) ∧
    (∀ i, engineSelect s = some i → i = .check ∨ i = .emit ∨ i = .finish) ∧
    encode .check = none ∧ encode .emit = none ∧ encode .finish = none ∧ encode .pop = none

/-- R83, R84: one aligned word of a byte-addressed bus inside the block's 4096 bytes is a host transaction at word
address `offset / 4`, lanes little-endian; another width, a misaligned offset, a write without four lanes and an offset
past the block are refused, so the clauses meet every access (log entry 11). -/
def Obligations.BridgeAcceptsAlignedWordsOnly : Prop :=
  (∀ (a : Addr) (d : Word) (lanes : List Byte),
    busWord { write := true, offset := 4 * a.toNat, width := 4, lanes := wordLanes d } = .ok (mkT 1#1 a d) ∧
    busWord { write := false, offset := 4 * a.toNat, width := 4, lanes := lanes } = .ok (mkT 0#1 a 0#32)) ∧
  (∀ lanes : List Byte, lanes.length = 4 → ∃ d : Word, lanes = wordLanes d) ∧
  (∀ (s : State) (b : BusAccess) (rest : List Event), s.inputs = .bus b :: rest →
    (b.width ≠ 4 ∨ b.offset % 4 ≠ 0 ∨ (b.write = true ∧ b.lanes.length ≠ 4) → step s = .refused .notOneAlignedWord) ∧
    (b.width = 4 → b.offset % 4 = 0 → (b.write = true → b.lanes.length = 4) → 4096 ≤ b.offset →
      step s = .refused .outsideTheBlock) ∧
    (∀ t, busWord b = .ok t → step s = exec (decodeWord t) { s with inputs := rest }))

/-! ## Host reads -/

/-- R140: every transaction is performed in every state; a read returns one word, a write returns nothing (the field
`rdata` is the model's, log entry 4). -/
def Obligations.EveryTransactionCompletes : Prop :=
  ∀ (s : State) (t : TWord), ∃ s', exec (decodeWord t) s = .next s' ∧
    (tW t = 0#1 → ∃ v, s'.rdata = some v) ∧ (tW t = 1#1 → s'.rdata = s.rdata)

/-- R142 to R145, R147, R149 to R151, R154: reads of the identification, control, error and interrupt registers. -/
def Obligations.ReadsReturnControlRegisters : Prop :=
  ∀ (s : State) (d : Word),
    (decodeWord (mkT 0#1 0x000#10 d) = .rdId ∧ exec .rdId s = .next { s with rdata := some 0x46534B53#32 }) ∧
    (decodeWord (mkT 0#1 0x001#10 d) = .rdVersion ∧ exec .rdVersion s = .next { s with rdata := some 0x00010000#32 }) ∧
    (decodeWord (mkT 0#1 0x002#10 d) = .rdCap ∧ exec .rdCap s = .next { s with rdata := some 0xFFFF8100#32 }) ∧
    (decodeWord (mkT 0#1 0x003#10 d) = .rdCtrl ∧
      exec .rdCtrl s = .next { s with rdata := some (if s.sinksel then 1#32 else 0#32) }) ∧
    (decodeWord (mkT 0#1 0x004#10 d) = .rdCmd ∧ exec .rdCmd s = .next { s with rdata := some 0x00000000#32 }) ∧
    (decodeWord (mkT 0#1 0x006#10 d) = .rdErrcode ∧
      exec .rdErrcode s = .next { s with rdata := some (0#16 ++ s.errcode) }) ∧
    (decodeWord (mkT 0#1 0x007#10 d) = .rdErrinfo ∧ exec .rdErrinfo s = .next { s with rdata := some s.errinfo }) ∧
    (decodeWord (mkT 0#1 0x008#10 d) = .rdIen ∧ exec .rdIen s = .next { s with rdata := some (0#29 ++ s.ien) }) ∧
    (decodeWord (mkT 0#1 0x009#10 d) = .rdIpend ∧ exec .rdIpend s = .next { s with rdata := some (0#29 ++ s.ipend) })

/-- R155, R157, R159, R161, R163, R165: reads of the parameter registers return all 32 bits. -/
def Obligations.ReadsReturnParameterRegisters : Prop :=
  ∀ (s : State) (d : Word),
    (decodeWord (mkT 0#1 0x010#10 d) = .rdSrate ∧ exec .rdSrate s = .next { s with rdata := some s.srate }) ∧
    (decodeWord (mkT 0#1 0x011#10 d) = .rdTsym ∧ exec .rdTsym s = .next { s with rdata := some s.tsym }) ∧
    (decodeWord (mkT 0#1 0x012#10 d) = .rdBasef ∧ exec .rdBasef s = .next { s with rdata := some s.basef }) ∧
    (decodeWord (mkT 0#1 0x013#10 d) = .rdBt ∧ exec .rdBt s = .next { s with rdata := some s.bt }) ∧
    (decodeWord (mkT 0#1 0x014#10 d) = .rdNsym ∧ exec .rdNsym s = .next { s with rdata := some s.nsym }) ∧
    (decodeWord (mkT 0#1 0x015#10 d) = .rdTones ∧ exec .rdTones s = .next { s with rdata := some s.tones })

/-- R167 to R173: reads of the derived, sequencer and datapath registers; a narrow register is zero-extended. -/
def Obligations.ReadsReturnDerivedRegisters : Prop :=
  ∀ (s : State) (d : Word),
    (decodeWord (mkT 0#1 0x018#10 d) = .rdNsps ∧ exec .rdNsps s = .next { s with rdata := some (0#16 ++ s.nsps) }) ∧
    (decodeWord (mkT 0#1 0x019#10 d) = .rdNtot ∧ exec .rdNtot s = .next { s with rdata := some s.ntot }) ∧
    (decodeWord (mkT 0#1 0x01A#10 d) = .rdFcw0 ∧ exec .rdFcw0 s = .next { s with rdata := some s.fcw0 }) ∧
    (decodeWord (mkT 0#1 0x01B#10 d) = .rdNcnt ∧ exec .rdNcnt s = .next { s with rdata := some s.ncnt }) ∧
    (decodeWord (mkT 0#1 0x01C#10 d) = .rdKidx ∧ exec .rdKidx s = .next { s with rdata := some (0#23 ++ s.kidx) }) ∧
    (decodeWord (mkT 0#1 0x01D#10 d) = .rdJidx ∧ exec .rdJidx s = .next { s with rdata := some (0#16 ++ s.jidx) }) ∧
    (decodeWord (mkT 0#1 0x01E#10 d) = .rdPhase ∧ exec .rdPhase s = .next { s with rdata := some s.phase })

/-- R27: every field of the word a `STATUS` read returns; nothing is cleared; after a reset every field is 0. -/
def Obligations.StatusReadShowsTheState : Prop :=
  ∀ (s : State) (d : Word), decodeWord (mkT 0#1 0x005#10 d) = .rdStatus ∧
    ∃ v : Word, exec .rdStatus s = .next { s with rdata := some v } ∧
      (v.extractLsb' 0 2).toNat =
        (match s.state with | .idle => 0 | .check => 1 | .run => 2 | .fault => 3) ∧
      v.extractLsb' 2 2 = 0#2 ∧
      (v.getLsbD 4 = true ↔ s.state = .check ∨ s.state = .run) ∧ v.getLsbD 5 = s.done ∧
      (v.getLsbD 6 = true ↔ s.state = .fault) ∧ v.getLsbD 7 = s.outValid ∧ v.getLsbD 8 = s.wrbusy ∧
      v.getLsbD 9 = s.cmderr ∧ v.getLsbD 10 = (s.outValid && s.outLast) ∧ v.extractLsb' 11 21 = 0#21 ∧
      ∀ draw : Memory, exec .rdStatus (State.hardReset draw s) =
        .next { State.hardReset draw s with rdata := some 0x00000000#32 }

/-- R180, R182: a symbol read returns the entry zero-extended; a reserved address reads 0. -/
def Obligations.SymbolAndReservedReads : Prop :=
  ∀ (s : State) (d : Word),
    (∀ idx : Byte, decodeWord (mkT 0#1 (BitVec.ofNat 10 (0x100 + idx.toNat)) d) = .rdSym idx ∧
      exec (.rdSym idx) s = .next { s with rdata := some (0#24 ++ s.sym.read idx.toNat) }) ∧
    (∀ a : Addr, reservedAddr a = true → decodeWord (mkT 0#1 a d) = .rdRsvd a ∧
      exec (.rdRsvd a) s = .next { s with rdata := some 0x00000000#32 })

/-- R273: a look at the holding register takes nothing. -/
def Obligations.OutpeekShowsTheHeldSample : Prop :=
  ∀ (s : State) (d : Word), decodeWord (mkT 0#1 0x020#10 d) = .rdOutpeek ∧
    exec .rdOutpeek s = .next { s with rdata := some (if s.outValid then s.out else 0x7FC00000#32) }

/-- R274: an `OUTPOP` read takes the held sample with `SINKSEL` = 1, and otherwise returns `NO_DATA` and changes nothing
(the record `delivered` is the model's, log entry 5). -/
def Obligations.OutpopTakesInHostMode : Prop :=
  ∀ (s : State) (d : Word), decodeWord (mkT 0#1 0x021#10 d) = .rdOutpop ∧
    (s.sinksel = true → s.outValid = true → exec .rdOutpop s =
      .next { s with outValid := false, rdata := some s.out, delivered := .popped s.out :: s.delivered }) ∧
    (s.sinksel = false ∨ s.outValid = false → exec .rdOutpop s = .next { s with rdata := some 0x7FC00000#32 })

/-- R86: every read but `OUTPOP`'s leaves the block as it was (only the returned word changes), and repeated it returns
the same word. -/
def Obligations.ReadsButOutpopAreIdempotent : Prop :=
  ∀ (s : State) (a : Addr) (d : Word), a ≠ 0x021#10 →
    ∃ v : Word, exec (decodeWord (mkT 0#1 a d)) s = .next { s with rdata := some v } ∧
      exec (decodeWord (mkT 0#1 a d)) { s with rdata := some v } = .next { s with rdata := some v }

/-! ## Host writes -/

/-- R146, R156, R158, R160, R162, R164, R166: each write stores its operand, or, while busy, only sets `WRBUSY` and
`HAZ_IP`. -/
def Obligations.WritesStoreUnlessBusy : Prop :=
  ∀ (s flagged : State) (imm : Word), flagged = { s with wrbusy := true, ipend := s.ipend ||| 0b100#3 } →
    let unlessBusy := fun t : State => if s.state = .check ∨ s.state = .run then flagged else t
    (decodeWord (mkT 1#1 0x003#10 imm) = .wrCtrl imm ∧
      exec (.wrCtrl imm) s = .next (unlessBusy { s with sinksel := imm.getLsbD 0 })) ∧
    (decodeWord (mkT 1#1 0x010#10 imm) = .wrSrate imm ∧
      exec (.wrSrate imm) s = .next (unlessBusy { s with srate := imm })) ∧
    (decodeWord (mkT 1#1 0x011#10 imm) = .wrTsym imm ∧
      exec (.wrTsym imm) s = .next (unlessBusy { s with tsym := imm })) ∧
    (decodeWord (mkT 1#1 0x012#10 imm) = .wrBasef imm ∧
      exec (.wrBasef imm) s = .next (unlessBusy { s with basef := imm })) ∧
    (decodeWord (mkT 1#1 0x013#10 imm) = .wrBt imm ∧ exec (.wrBt imm) s = .next (unlessBusy { s with bt := imm })) ∧
    (decodeWord (mkT 1#1 0x014#10 imm) = .wrNsym imm ∧
      exec (.wrNsym imm) s = .next (unlessBusy { s with nsym := imm })) ∧
    (decodeWord (mkT 1#1 0x015#10 imm) = .wrTones imm ∧
      exec (.wrTones imm) s = .next (unlessBusy { s with tones := imm }))

/-- R88, R141: while busy, a write to any address of the busy-protected set is discarded and flagged. -/
def Obligations.BusyProtectedWritesAreDiscarded : Prop :=
  ∀ (s : State) (a : Addr) (d : Word), (s.state = .check ∨ s.state = .run) →
    (a = 0x003#10 ∨ (0x010 ≤ a.toNat ∧ a.toNat ≤ 0x015) ∨ (0x100 ≤ a.toNat ∧ a.toNat ≤ 0x1FF)) →
    exec (decodeWord (mkT 1#1 a d)) s = .next { s with wrbusy := true, ipend := s.ipend ||| 0b100#3 }

/-- R181: a symbol write while busy only sets the two flags; otherwise it stores the value, 255 if it is above 255, in
its one entry; every other entry reads as before and nothing else changes. -/
def Obligations.SymbolWriteSaturates : Prop :=
  ∀ (s : State) (idx : Byte) (val : Word), s.sym.wf →
    decodeWord (mkT 1#1 (BitVec.ofNat 10 (0x100 + idx.toNat)) val) = .wrSym idx val ∧
    (s.state = .check ∨ s.state = .run →
      exec (.wrSym idx val) s = .next { s with wrbusy := true, ipend := s.ipend ||| 0b100#3 }) ∧
    (s.state = .idle ∨ s.state = .fault →
      ∃ m : Memory, exec (.wrSym idx val) s = .next { s with sym := m } ∧ m.wf ∧
        (m.read idx.toNat).toNat = min val.toNat 255 ∧ ∀ a : Nat, a ≠ idx.toNat → m.read a = s.sym.read a)

/-- R152, R153: interrupt enables are stored, pending bits written as 1 are cleared, in every state. -/
def Obligations.InterruptRegisterWrites : Prop :=
  ∀ (s : State) (imm : Word),
    decodeWord (mkT 1#1 0x008#10 imm) = .wrIen imm ∧ decodeWord (mkT 1#1 0x009#10 imm) = .wrIpend imm ∧
    (∃ e : BitVec 3, exec (.wrIen imm) s = .next { s with ien := e } ∧ ∀ b, b < 3 → e.getLsbD b = imm.getLsbD b) ∧
    (∃ p : BitVec 3, exec (.wrIpend imm) s = .next { s with ipend := p } ∧
      ∀ b, b < 3 → p.getLsbD b = (s.ipend.getLsbD b && !imm.getLsbD b))

/-- R179, R183: a write to a read-only, read-sensitive or reserved address changes nothing, in any state. -/
def Obligations.ReadOnlyAndReservedWritesAreInert : Prop :=
  (∀ (s : State) (a : Addr) (d : Word),
    (a.toNat ∈ [0x000, 0x001, 0x002, 0x005, 0x006, 0x007, 0x018, 0x019, 0x01A, 0x01B, 0x01C, 0x01D, 0x01E, 0x020, 0x021]
      ∨ reservedAddr a = true) → exec (decodeWord (mkT 1#1 a d)) s = .next s) ∧
  (∀ (s : State) (a : Addr) (d : Word), ∀ i ∈ [Instr.wrRoId d, .wrRoVersion d, .wrRoCap d, .wrRoStatus d, .wrRoErrcode d,
    .wrRoErrinfo d, .wrRoNsps d, .wrRoNtot d, .wrRoFcw0 d, .wrRoNcnt d, .wrRoKidx d, .wrRoJidx d, .wrRoPhase d,
    .wrRoOutpeek d, .wrRoOutpop d, .wrRsvd a d], exec i s = .next s)

/-! ## Commands -/

/-- R191, R196, R114: `NOP` does nothing; every reserved command word sets `CMDERR` and `HAZ_IP` and does nothing else. -/
def Obligations.NopAndReservedCommands : Prop :=
  ∀ (s : State) (d : Word),
    decodeWord (mkT 1#1 0x004#10 0x00000000#32) = .cmdNop ∧ exec .cmdNop s = .next s ∧
    ((d.toNat % 2 ^ 24 ≠ 0 ∨ 0x05 ≤ d.toNat / 2 ^ 24) → decodeWord (mkT 1#1 0x004#10 d) = .cmdRsvd d) ∧
    exec (.cmdRsvd d) s = .next { s with cmderr := true, ipend := s.ipend ||| 0b100#3 }

/-- R192: `START` is accepted in `IDLE` and refused with a flag elsewhere (what becomes of the record `delivered` is the
model's choice, log entry 5, and left open here). -/
def Obligations.StartIsAcceptedOnlyInIdle : Prop :=
  ∀ s : State, decodeWord (mkT 1#1 0x004#10 0x01000000#32) = .cmdStart ∧
    (s.state = .idle → ∃ d, exec .cmdStart s = .next { s with state := .check, done := false, delivered := d }) ∧
    (s.state ≠ .idle → exec .cmdStart s = .next { s with cmderr := true, ipend := s.ipend ||| 0b100#3 })

/-- R193: `ABORT` ends a run and clears the holding register; elsewhere it does nothing. -/
def Obligations.AbortEndsTheRun : Prop :=
  ∀ s : State, decodeWord (mkT 1#1 0x004#10 0x02000000#32) = .cmdAbort ∧
    (s.state = .check ∨ s.state = .run →
      exec .cmdAbort s = .next { s with state := .idle, out := 0#32, outValid := false, outLast := false }) ∧
    (s.state = .idle ∨ s.state = .fault → exec .cmdAbort s = .next s)

/-- R194, R325: `CLRERR` clears the sticky flags in every state and is the return from `FAULT`. -/
def Obligations.ClrerrReturnsFromTheFault : Prop :=
  ∀ s : State, decodeWord (mkT 1#1 0x004#10 0x03000000#32) = .cmdClrerr ∧
    (s.state = .fault → exec .cmdClrerr s =
      .next { s with wrbusy := false, cmderr := false, state := .idle, errcode := 0#16, errinfo := 0#32 }) ∧
    (s.state ≠ .fault → exec .cmdClrerr s = .next { s with wrbusy := false, cmderr := false })

/-- R195: after `SRESET` every element of R20 but `SYM` is 0; `SYM` stays (what becomes of the record `delivered` is the
model's choice, log entry 5, and left open here). -/
def Obligations.SresetGivesTheResetValues : Prop :=
  ∀ s : State, decodeWord (mkT 1#1 0x004#10 0x04000000#32) = .cmdSreset ∧ ∃ d, exec .cmdSreset s =
    .next { state := .idle, done := false, wrbusy := false, cmderr := false, sinksel := false, errcode := 0#16,
            errinfo := 0#32, ien := 0#3, ipend := 0#3, srate := 0#32, tsym := 0#32, basef := 0#32, bt := 0#32,
            nsym := 0#32, tones := 0#32, nsps := 0#16, ntot := 0#32, fcw0 := 0#32, ncnt := 0#32, kidx := 0#9,
            jidx := 0#16, phase := 0#32, out := 0#32, outValid := false, outLast := false, sym := s.sym,
            inputs := s.inputs, rdata := s.rdata, delivered := d }

/-- R360, R58, R59, R60: a hardware reset from any state, whatever the symbol memory then holds (the event and its draw
are the model's, log entry 10). -/
def Obligations.HardwareResetFromAnyState : Prop :=
  ∀ (s : State) (f : Nat → Byte) (rest : List Event),
    s.inputs = .reset ((List.range 256).map fun i => (i, f i)) :: rest →
    ∃ t, step s = .next t ∧
      t = { State.reset with sym := t.sym, inputs := rest, rdata := s.rdata, delivered := s.delivered } ∧
      (∀ i, i < 256 → t.sym.read i = f i) ∧ irq t = false ∧ outTvalid t = false ∧
      exec .rdStatus t = .next { t with rdata := some 0x00000000#32 } ∧
      exec .rdOutpeek t = .next { t with rdata := some 0x7FC00000#32 } ∧
      exec .rdOutpop t = .next { t with rdata := some 0x7FC00000#32 }

/-! ## CHECK and the exception -/

/-- R213, R220, R221, R222: with legal arguments `CHECK` derives `NSPS`, `NTOT`, `FCW0` on exact integers, zeroes the
sequencer, the phase and the holding flags, and enters `RUN`. -/
def Obligations.CheckStartsALegalRun : Prop :=
  ∀ (s : State) (rate nsps : Int), s.state = .check → rate = s.srate.toInt → nsps = rate * s.tsym.toNat / 1000000 →
    0 < rate → 1 ≤ nsps → nsps ≤ 65535 → 1 ≤ s.bt.toNat → s.bt.toNat ≤ 0xFFFF → 1 ≤ s.nsym.toNat → s.nsym.toNat ≤ 256 →
    1 ≤ s.tones.toNat → s.tones.toNat ≤ 8 → (∀ i, i < s.nsym.toNat → (s.sym.read i).toNat < s.tones.toNat) →
    exec .check s = .next { s with
      nsps := BitVec.ofInt 16 nsps, ntot := BitVec.ofInt 32 (s.nsym.toNat * nsps),
      fcw0 := BitVec.ofInt 32 (s.basef.toNat * 2 ^ 32 / (1000 * rate)),
      ncnt := 0#32, kidx := 0#9, jidx := 0#16, phase := 0#32, outValid := false, outLast := false, state := .run }

/-- R211 to R219, R321, R324: the first failing test gives the cause and the datum; taking the exception changes exactly
the state, the fault record, the derived registers and `ERR_IP`. -/
def Obligations.CheckRaisesTheFirstFailingCause : Prop :=
  ∀ (s : State) (rate nsps : Int), s.state = .check → rate = s.srate.toInt → nsps = rate * s.tsym.toNat / 1000000 →
    let raised := fun (code : BitVec 16) (info : Word) => exec .check s = .next { s with
      state := .fault, errcode := code, errinfo := info, nsps := 0#16, ntot := 0#32, fcw0 := 0#32,
      ipend := s.ipend ||| 0b010#3 }
    (rate ≤ 0 → raised 0x0101#16 0#32) ∧
    (0 < rate → nsps < 1 → raised 0x0201#16 0#32) ∧
    (0 < rate → 65535 < nsps → raised 0x0301#16 (BitVec.ofInt 32 (min nsps 0xFFFFFFFF))) ∧
    (0 < rate → 1 ≤ nsps → nsps ≤ 65535 →
      ((s.bt.toNat = 0 ∨ 0xFFFF < s.bt.toNat) → raised 0x0401#16 0#32) ∧
      (1 ≤ s.bt.toNat → s.bt.toNat ≤ 0xFFFF →
        ((s.nsym.toNat = 0 ∨ 256 < s.nsym.toNat) → raised 0x0501#16 0#32) ∧
        (1 ≤ s.nsym.toNat → s.nsym.toNat ≤ 256 →
          ((s.tones.toNat = 0 ∨ 8 < s.tones.toNat) → raised 0x0601#16 0#32) ∧
          (1 ≤ s.tones.toNat → s.tones.toNat ≤ 8 →
            ∀ i, i < s.nsym.toNat → s.tones.toNat ≤ (s.sym.read i).toNat →
              (∀ j, j < i → (s.sym.read j).toNat < s.tones.toNat) → raised 0x0701#16 (BitVec.ofNat 32 i)))))

/-- R320: only `CHECK` raises; no transaction, command, `EMIT`, `FINISH` or `POP` enters `FAULT`, and the kind is always
`InvalidParameters`. -/
def Obligations.OnlyCheckRaises : Prop :=
  ∀ (i : Instr) (s t : State), exec i s = .next t → s.state ≠ .fault → t.state = .fault →
    i = .check ∧ s.state = .check ∧ t.errcode.extractLsb' 0 8 = 0x01#8

/-- R363, R198: what `CHECK` leaves depends on the arguments alone, so nothing of an earlier run lasts. -/
def Obligations.CheckForgetsEarlierRuns : Prop :=
  ∀ s s' t t' : State, s.args = s'.args → s.tones = s'.tones → exec .check s = .next t → exec .check s' = .next t' →
    t.state = t'.state ∧ t.nsps = t'.nsps ∧ t.ntot = t'.ntot ∧ t.fcw0 = t'.fcw0 ∧
    (t.state = .run → t.ncnt = t'.ncnt ∧ t.kidx = t'.kidx ∧ t.jidx = t'.jidx ∧ t.phase = t'.phase ∧
      t.outValid = t'.outValid ∧ t.outLast = t'.outLast) ∧
    (t.state = .fault → t.errcode = t'.errcode ∧ t.errinfo = t'.errinfo)

/-! ## EMIT, FINISH and POP -/

/-- R231, R235 to R237, R239, R242 to R245: the sample, the phase, the sequencer and the last flag of one `EMIT`
(`pulseq` and `sinf` are the model's evaluations of the spec's functions, log entries 6 and 7). -/
def Obligations.EmitProducesOneSample : Prop :=
  ∀ (s : State) (k j N B M prev cur next : Nat), k = s.kidx.toNat → j = s.jidx.toNat → N = s.nsps.toNat →
    B = s.bt.toNat → s.state = .run → s.outValid = false → s.ncnt.toNat < s.ntot.toNat →
    k < s.nsym.toNat → s.nsym.toNat ≤ 256 → j < N → 1 ≤ B → B ≤ 0xFFFF →
    prev = (s.sym.read (if 0 < k then k - 1 else 0)).toNat → cur = (s.sym.read k).toNat →
    next = (s.sym.read (if k + 1 < s.nsym.toNat then k + 1 else s.nsym.toNat - 1)).toNat →
    M = prev * pulseq N B (j + 2 * N) + cur * pulseq N B (j + N) + next * pulseq N B j →
    exec .emit s = .next { s with
      out := sinf s.phase, outLast := decide (s.ncnt.toNat = s.ntot.toNat - 1), outValid := true,
      phase := BitVec.ofNat 32 (s.phase.toNat + (s.fcw0.toNat + M * 2 ^ 17 / N) % 2 ^ 32),
      ncnt := BitVec.ofNat 32 (s.ncnt.toNat + 1),
      jidx := BitVec.ofNat 16 (if j + 1 = N then 0 else j + 1),
      kidx := BitVec.ofNat 9 (if j + 1 = N then k + 1 else k) }

/-- R246: `FINISH` ends the run. -/
def Obligations.FinishEndsTheRun : Prop :=
  ∀ s : State, s.state = .run → s.outValid = false → s.ncnt = s.ntot →
    exec .finish s = .next { s with state := .idle, done := true, ipend := s.ipend ||| 0b001#3 }

/-- R271: `POP` delivers the held sample and its last flag; only `OUT_VALID` falls (the record `delivered` is the
model's, log entry 5). -/
def Obligations.PopDeliversTheHeldSample : Prop :=
  ∀ s : State, s.outValid = true → s.sinksel = false →
    exec .pop s = .next { s with outValid := false, delivered := .beat s.out s.outLast :: s.delivered }

/-- R119, R122: an engine or sink operation that is not enabled has no step (the refusal is the model's, log entry 9);
so the engine waits while a sample is held (R230, R278). -/
def Obligations.DisabledOperationsHaveNoStep : Prop :=
  ∀ s : State,
    (s.state ≠ .check → exec .check s = .refused (.notEnabled "CHECK")) ∧
    (s.state ≠ .run ∨ s.outValid = true ∨ s.ntot.toNat ≤ s.ncnt.toNat → exec .emit s = .refused (.notEnabled "EMIT")) ∧
    (s.state ≠ .run ∨ s.outValid = true ∨ s.ncnt ≠ s.ntot → exec .finish s = .refused (.notEnabled "FINISH")) ∧
    (s.outValid = false ∨ s.sinksel = true → exec .pop s = .refused (.notEnabled "POP"))

/-! ## Rules over all operations -/

/-- R51: every listed transition of `STATE` happens, and there is no other. -/
def Obligations.StateTransitionsAreThoseListed : Prop :=
  (∀ (i : Instr) (s t : State), exec i s = .next t → t.state ≠ s.state →
    (i = .cmdStart ∧ s.state = .idle ∧ t.state = .check) ∨
    (i = .check ∧ s.state = .check ∧ (t.state = .run ∨ t.state = .fault)) ∨
    (i = .finish ∧ s.state = .run ∧ t.state = .idle) ∨
    (i = .cmdAbort ∧ (s.state = .check ∨ s.state = .run) ∧ t.state = .idle) ∨
    (i = .cmdClrerr ∧ s.state = .fault ∧ t.state = .idle) ∨
    (i = .cmdSreset ∧ t.state = .idle)) ∧
  (∀ (i : Instr) (s t : State), exec i s = .next t →
    (i = .cmdStart → s.state = .idle → t.state = .check) ∧
    (i = .check → (Legal s → t.state = .run) ∧ (¬ Legal s → t.state = .fault)) ∧
    (i = .finish → t.state = .idle) ∧ (i = .cmdAbort → s.state = .check ∨ s.state = .run → t.state = .idle) ∧
    (i = .cmdClrerr → s.state = .fault → t.state = .idle) ∧ (i = .cmdSreset → t.state = .idle)) ∧
  (∀ (s t : State) (draw : Memory) (rest : List Event), s.inputs = .reset draw :: rest → step s = .next t →
    t.state = .idle)

/-- R52: `DONE` is set by `FINISH` alone and cleared by an accepted `START` and `SRESET` and by nothing else. -/
def Obligations.DoneChangesOnlyAtRunEnds : Prop :=
  ∀ (i : Instr) (s t : State), exec i s = .next t →
    (i = .finish → t.done = true) ∧
    (s.done = false → t.done = true → i = .finish) ∧
    ((i = .cmdStart ∧ s.state = .idle) ∨ i = .cmdSreset → t.done = false) ∧
    (s.done = true → t.done = false → (i = .cmdStart ∧ s.state = .idle) ∨ i = .cmdSreset)

/-- R53: what sets the two sticky hazard flags, and that only `CLRERR` and `SRESET` clear them. -/
def Obligations.HazardFlagsAreSticky : Prop :=
  ∀ (i : Instr) (s t : State), exec i s = .next t →
    (s.wrbusy = true → t.wrbusy = false → i = .cmdClrerr ∨ i = .cmdSreset) ∧
    (s.cmderr = true → t.cmderr = false → i = .cmdClrerr ∨ i = .cmdSreset) ∧
    (i = .cmdClrerr ∨ i = .cmdSreset → t.wrbusy = false ∧ t.cmderr = false) ∧
    (s.wrbusy = false → t.wrbusy = true → (s.state = .check ∨ s.state = .run) ∧
      i.mnemonic ∈ ["WR.CTRL", "WR.SRATE", "WR.TSYM", "WR.BASEF", "WR.BT", "WR.NSYM", "WR.TONES", "WR.SYM"]) ∧
    (s.cmderr = false → t.cmderr = true → i.mnemonic = "CMD.RSVD" ∨ (i = .cmdStart ∧ s.state ≠ .idle))

/-- R31, R329, R331: the events that set each pending bit (whatever the enables), those of `HAZ_IP` being a busy-protected
write while busy, a reserved command and a `START` outside `IDLE` (`Hazard`), and that only a write of a 1 and `SRESET` clear one. -/
def Obligations.PendingBitsFollowTheirSources : Prop :=
  ∀ (i : Instr) (s t : State), exec i s = .next t →
    (s.ipend.getLsbD 0 = false → t.ipend.getLsbD 0 = true → i = .finish) ∧
    (s.ipend.getLsbD 1 = false → t.ipend.getLsbD 1 = true → i = .check ∧ t.state = .fault) ∧
    (s.ipend.getLsbD 2 = false → t.ipend.getLsbD 2 = true → Hazard i s) ∧
    (i = .finish → t.ipend.getLsbD 0 = true) ∧ (i = .check → t.state = .fault → t.ipend.getLsbD 1 = true) ∧
    (Hazard i s → t.ipend.getLsbD 2 = true) ∧
    ((s.wrbusy = false ∧ t.wrbusy = true) ∨ (s.cmderr = false ∧ t.cmderr = true) → Hazard i s) ∧
    (∀ b, b < 3 → s.ipend.getLsbD b = true → t.ipend.getLsbD b = false →
      (∃ imm : Word, i = .wrIpend imm ∧ imm.getLsbD b = true) ∨ i = .cmdSreset)

/-- R330: the interrupt line is a function of the two registers. -/
def Obligations.IrqIsEnabledPending : Prop :=
  ∀ s : State, irq s = true ↔ ∃ b, b < 3 ∧ s.ien.getLsbD b = true ∧ s.ipend.getLsbD b = true

/-- R49 and R44: no operation but `EMIT`, a passing `CHECK` and `SRESET` moves the sequencer or the phase; a failing
`CHECK` leaves them, and a passing one and `SRESET` set them to 0. -/
def Obligations.SequencerMovesOnlyByEngine : Prop :=
  ∀ (i : Instr) (s t : State), exec i s = .next t →
    (i ≠ .emit → i ≠ .check → i ≠ .cmdSreset →
      t.kidx = s.kidx ∧ t.jidx = s.jidx ∧ t.ncnt = s.ncnt ∧ t.phase = s.phase) ∧
    (i = .check → t.state = .fault → t.kidx = s.kidx ∧ t.jidx = s.jidx ∧ t.ncnt = s.ncnt ∧ t.phase = s.phase) ∧
    ((i = .check ∧ t.state = .run) ∨ i = .cmdSreset → t.kidx = 0#9 ∧ t.jidx = 0#16 ∧ t.ncnt = 0#32 ∧ t.phase = 0#32)

/-- R38, R39, R40, R28, R29: the derived registers change only in `CHECK` and `SRESET`; the fault record only in a failing
`CHECK`, in `CLRERR` from `FAULT` and in `SRESET`. -/
def Obligations.DerivedRegistersAndFaultRecordWriters : Prop :=
  ∀ (i : Instr) (s t : State), exec i s = .next t →
    (i ≠ .check → i ≠ .cmdSreset → t.nsps = s.nsps ∧ t.ntot = s.ntot ∧ t.fcw0 = s.fcw0) ∧
    ((i = .check → t.state = .run) → (i = .cmdClrerr → s.state ≠ .fault) → i ≠ .cmdSreset →
      t.errcode = s.errcode ∧ t.errinfo = s.errinfo)

/-- R62, R88, R92: while the block is busy no operation but `SRESET` changes a parameter, `SINKSEL` or an entry of
`SYM`. -/
def Obligations.ArgumentsAreFrozenWhileBusy : Prop :=
  ∀ (i : Instr) (s t : State), (s.state = .check ∨ s.state = .run) → i ≠ .cmdSreset → exec i s = .next t →
    t.srate = s.srate ∧ t.tsym = s.tsym ∧ t.basef = s.basef ∧ t.bt = s.bt ∧ t.nsym = s.nsym ∧ t.tones = s.tones ∧
      t.sinksel = s.sinksel ∧ ∀ a, t.sym.read a = s.sym.read a

/-- R62: the frame of the symbol memory and of the parameters: each is changed only by its own write and, but for `SYM`,
by `SRESET`. -/
def Obligations.ParametersChangeOnlyByTheirWrites : Prop :=
  ∀ (i : Instr) (s t : State), exec i s = .next t →
    (i.mnemonic ≠ "WR.SYM" → ∀ a, t.sym.read a = s.sym.read a) ∧
    (i ≠ .cmdSreset →
      (i.mnemonic ≠ "WR.SRATE" → t.srate = s.srate) ∧ (i.mnemonic ≠ "WR.TSYM" → t.tsym = s.tsym) ∧
      (i.mnemonic ≠ "WR.BASEF" → t.basef = s.basef) ∧ (i.mnemonic ≠ "WR.BT" → t.bt = s.bt) ∧
      (i.mnemonic ≠ "WR.NSYM" → t.nsym = s.nsym) ∧ (i.mnemonic ≠ "WR.TONES" → t.tones = s.tones) ∧
      (i.mnemonic ≠ "WR.CTRL" → t.sinksel = s.sinksel) ∧ (i.mnemonic ≠ "WR.IEN" → t.ien = s.ien))

/-- R272: an offered beat stays, unchanged, until `POP`, `ABORT`, `SRESET` or a hardware reset. -/
def Obligations.OfferedBeatStaysUntilTaken : Prop :=
  ∀ (i : Instr) (s t : State) (beat : Word × Bool), Inv s → offeredBeat s = some beat → exec i s = .next t →
    i ≠ .pop → i ≠ .cmdAbort → i ≠ .cmdSreset → offeredBeat t = some beat

/-! ## The two functions of the datapath -/

/-- R241 S1 and V4: fixed points and sample values of `SINF`. -/
def Obligations.SineSampleValues : Prop :=
  sinf 0x00000000#32 = 0x00000000#32 ∧ sinf 0x80000000#32 = 0x00000000#32 ∧ sinf 0x40000000#32 = 0x3F800000#32 ∧
  sinf 0xC0000000#32 = 0xBF800000#32 ∧ sinf 0x00000001#32 = 0x30C90FDB#32 ∧ sinf 0x60000000#32 = 0x3F3504F3#32 ∧
  sinf 0x80018000#32 = 0xB916CBE4#32 ∧ sinf 0xDEADBEEF#32 = 0xBF3ACB25#32

/-- R241 S2, S3, S4: sign, oddness and mirror symmetry. -/
def Obligations.SineSignAndSymmetries : Prop :=
  ∀ phi : Word,
    (0 < phi.toNat → phi.toNat < 2 ^ 31 → (sinf phi).getLsbD 31 = false ∧ sinf phi ≠ 0#32) ∧
    (2 ^ 31 < phi.toNat → (sinf phi).getLsbD 31 = true) ∧
    (phi ≠ 0#32 → phi ≠ 0x80000000#32 → sinf (0#32 - phi) = sinf phi ^^^ 0x80000000#32) ∧
    (phi.toNat ≤ 2 ^ 31 → sinf (0x80000000#32 - phi) = sinf phi)

/-- R241 S6, S7, R118, R46: a sample is `+0.0` or a normal number of magnitude at most 1.0, so never `NO_DATA`. -/
def Obligations.SamplesAreZeroOrNormal : Prop :=
  ∀ phi : Word,
    (sinf phi = 0x00000000#32 ∨ (1 ≤ ((sinf phi).extractLsb' 23 8).toNat ∧ ((sinf phi).extractLsb' 23 8).toNat ≤ 127)) ∧
    ((sinf phi).extractLsb' 0 31).toNat ≤ 0x3F800000 ∧ sinf phi ≠ 0x7FC00000#32

/-- R240, R241 S8: the sample differs from the real sine of its phase by at most 2^-25, with 2^-60 added, and by at most
half a unit of its own last place (`2^(e - 151)` for the exponent field `e`), with a 2^-30 part of that added; so a small
sample is near in proportion. What is added covers the error of the fixed-point evaluation (log entry 6). -/
def Obligations.SampleIsTheSineOfThePhase : Prop :=
  ∀ phi : Word,
    let distance := |((binary32Value (sinf phi) : Rat) : Real) - Real.sin (2 * Real.pi * phi.toNat / 2 ^ 32)|
    distance ≤ 1 / 2 ^ 25 + 1 / 2 ^ 60 ∧
    distance ≤ (1 + 1 / 2 ^ 30) * (2 ^ ((sinf phi).extractLsb' 23 8).toNat / 2 ^ 151)

/-- R234 Q1: a quantised pulse value is at most 32768. -/
def Obligations.PulseStaysInRange : Prop :=
  ∀ N B i : Nat, pulseq N B i ≤ 32768

/-- R234 Q2: the pulse is symmetric about its centre. -/
def Obligations.PulseIsMirrored : Prop :=
  ∀ N B i : Nat, 1 ≤ N → 1 ≤ i → i ≤ 3 * N - 1 → pulseq N B i = pulseq N B (3 * N - i)

/-- R234 Q6: half height at both ends of the pulse's own symbol, for bandwidth-time products of 1.0 and above; the
tables V3 for small `N` and values of the tables of 1920 and 576 samples; and Q7, the sum of the three pulse values of a
sample, for products of 1.875 and above, where the cut tails are below every rounding, so that the sum differs from
32768 by at most 1 (the integer part of the 3/2 of Q7). `pulseq` is the model's evaluation of `PULSEQ` (log entry 7). -/
def Obligations.PulseHalfPoints : Prop :=
  (∀ N B : Nat, 1 ≤ N → 0x100 ≤ B → B ≤ 0xFFFF → pulseq N B N = 16384 ∧ pulseq N B (2 * N) = 16384) ∧
  (List.range 3).map (pulseq 1 0x40) = [967, 15414, 15414] ∧ (List.range 3).map (pulseq 1 0x1) = [385, 385, 385] ∧
  (List.range 6).map (pulseq 2 0x100) = [0, 3, 16384, 32763, 16384, 3] ∧
  (List.range 12).map (pulseq 4 0x200) = [0, 0, 0, 3, 16384, 32765, 32768, 32765, 16384, 3, 0, 0] ∧
  (List.range 12).map (pulseq 4 0x80) = [3, 76, 970, 5661, 16381, 27031, 30828, 27031, 16381, 5661, 970, 76] ∧
  (List.range 12).map (pulseq 4 0x40) =
    [967, 2557, 5584, 10138, 15414, 19756, 21447, 19756, 15414, 10138, 5584, 2557] ∧
  [1389, 1390, 1720, 1919, 1921, 2120, 2450, 2451, 3309, 3310, 4370, 4371].map (pulseq 1920 0x200) =
    [0, 1, 1899, 16281, 16487, 30869, 32767, 32768, 32768, 32767, 1, 0] ∧
  [257, 258, 376, 556, 676, 776, 864, 1153, 1470, 1471].map (pulseq 576 0x100) =
    [0, 1, 144, 12997, 29653, 32624, 32763, 16213, 1, 0] ∧
  ∀ N B j : Nat, j < N → 480 ≤ B → B ≤ 0xFFFF →
    32767 ≤ pulseq N B j + pulseq N B (j + N) + pulseq N B (j + 2 * N) ∧
    pulseq N B j + pulseq N B (j + N) + pulseq N B (j + 2 * N) ≤ 32769

/-! ## Invariants and whole runs -/

/-- The invariant holds after a hardware reset, whatever `SYM` then holds, and before the first event. -/
def Obligations.InvariantHoldsAfterReset : Prop :=
  ∀ (draw : Memory) (s : State),
    Inv (State.hardReset draw s) ∧ WaveInv (State.hardReset draw s) ∧ Inv State.reset ∧ WaveInv State.reset

/-- R56, R343: every step from a state with the invariant gives one with it. -/
def Obligations.StepKeepsTheInvariant : Prop :=
  ∀ s t : State, Inv s → step s = .next t → Inv t

/-- R56: I1 to I5 in every state a run can reach, for every sequence of events and every draw of `SYM`. -/
def Obligations.ReachableStatesMeetI1ToI5 : Prop :=
  ∀ s : State, Reachable s →
    ((s.state = .idle ∨ s.state = .check ∨ s.state = .fault) → s.outValid = false) ∧
    (s.state = .run →
      1 ≤ s.nsps.toNat ∧ s.nsps.toNat ≤ 65535 ∧ 1 ≤ s.nsym.toNat ∧ s.nsym.toNat ≤ 256 ∧
      s.ntot.toNat = s.nsym.toNat * s.nsps.toNat ∧ s.ncnt.toNat = s.kidx.toNat * s.nsps.toNat + s.jidx.toNat ∧
      s.jidx.toNat < s.nsps.toNat ∧ s.ncnt.toNat ≤ s.ntot.toNat ∧ s.kidx.toNat ≤ s.nsym.toNat ∧
      1 ≤ s.tones.toNat ∧ s.tones.toNat ≤ 8 ∧ 1 ≤ s.bt.toNat ∧ s.bt.toNat ≤ 0xFFFF ∧ 0 < s.srate.toInt ∧
      ∀ i, i < s.nsym.toNat → (s.sym.read i).toNat < s.tones.toNat) ∧
    (s.state = .fault ↔ s.errcode ≠ 0#16) ∧
    (s.outValid = true → s.outLast = true → s.ncnt = s.ntot) ∧
    (s.done = true → s.state = .idle)

/-- R14, R56: from a state with the invariant no step ends in a fault of the model (log entry 8). -/
def Obligations.NoStepFaultsUnderTheInvariant : Prop :=
  ∀ (s : State) (f : Fault), Inv s → step s ≠ .fault f

/-- R96, R247, R242: under every interleaving the phase is that of the next sample and exactly the samples taken so far
have left the block, in order, each once. What has left stands in the model's record `delivered`, begun anew at an
accepted `START` (log entry 5), and `WaveInv` says so of `CHECK`; the waveform rests on the model's evaluations `sinf`
and `pulseq` (log entries 6 and 7). -/
def Obligations.StepKeepsTheWaveform : Prop :=
  ∀ s t : State, Inv s → WaveInv s → step s = .next t → WaveInv t

/-- R93, R246, R275: when `FINISH` is taken, the whole waveform has been delivered: it stands in the model's record
`delivered` (log entry 5); the waveform rests on the model's evaluations `sinf` and `pulseq` (log entries 6 and 7). -/
def Obligations.FinishMeansDelivered : Prop :=
  ∀ s t : State, Inv s → WaveInv s → exec .finish s = .next t →
    t.delivered.reverse = (List.range s.args.ntot).map s.deliveryOf ∧ t.done = true ∧ t.state = .idle ∧
      t.phase = s.args.phi s.args.ntot

/-- R379, R247: a legal run drained by the sink, or by `OUTPOP` reads, takes one `CHECK`, `NTOT` pairs of an `EMIT` and a
taking, and one `FINISH`; it then has delivered `WAVE(0)` to `WAVE(NTOT - 1)`. The events stand in the model's list
`inputs` and the deliveries in its record `delivered` (log entries 2 and 5); the waveform rests on the model's
evaluations `sinf` and `pulseq` (log entries 6 and 7). -/
def Obligations.DrainedRunDeliversTheWaveform : Prop :=
  ∀ s : State, Inv s → WaveInv s → s.state = .check → Legal s →
    s.inputs = .engine :: (alternating s.takeTurn s.args.ntot ++ [.engine]) →
    ∃ t, Sys2Proof.core.run (2 * s.args.ntot + 2) s = .next t ∧ t.state = .idle ∧ t.done = true ∧ t.inputs = [] ∧
      t.args = s.args ∧ t.ncnt.toNat = s.args.ntot ∧
      t.delivered.reverse = (List.range s.args.ntot).map s.deliveryOf
end

