-- ==== Sys2Proof/Laws/Decode.lean ====
section
/-! SUPPORT. The transaction word and its fields (30_encoding.md R110, R111). -/

namespace Sys2Proof

@[simp] theorem tW_mkT (w : BitVec 1) (a : Addr) (d : Word) : tW (mkT w a d) = w := by
  ext i hi
  simp only [tW, mkT, BitVec.getElem_extractLsb', BitVec.getLsbD_append]
  simp [show ¬ 42 + i < 32 by omega, show ¬ 42 + i - 32 < 10 by omega, show 42 + i - 32 - 10 = i by omega,
    BitVec.getLsbD_eq_getElem hi]

@[simp] theorem tAddr_mkT (w : BitVec 1) (a : Addr) (d : Word) : tAddr (mkT w a d) = a := by
  ext i hi
  simp only [tAddr, mkT, BitVec.getElem_extractLsb', BitVec.getLsbD_append]
  simp [hi]

@[simp] theorem tData_mkT (w : BitVec 1) (a : Addr) (d : Word) : tData (mkT w a d) = d := by
  ext i hi
  simp only [tData, mkT, BitVec.getElem_extractLsb', BitVec.getLsbD_append]
  simp [hi]

/-- `T` is its three fields. -/
theorem mkT_fields (t : TWord) : mkT (tW t) (tAddr t) (tData t) = t := by
  apply BitVec.eq_of_getLsbD_eq
  intro i hi
  simp only [mkT, tW, tAddr, tData, BitVec.getLsbD_append, BitVec.getLsbD_extractLsb']
  by_cases h1 : i < 32
  · simp [h1]
  · by_cases h2 : i - 32 < 10
    · simp [h1, h2, show 32 + (i - 32) = i by omega]
    · simp [h1, h2, show 42 + (i - 32 - 10) = i by omega, show i - 32 - 10 < 1 by omega]

theorem decodeWord_mkT_write (a : Addr) (d : Word) : decodeWord (mkT 1#1 a d) = decodeWrite a d := by
  simp [decodeWord]

theorem decodeWord_mkT_read (a : Addr) (d : Word) : decodeWord (mkT 0#1 a d) = decodeRead a := by
  simp [decodeWord]

end Sys2Proof
end

