-- ==== Sys2Proof/Laws/State.lean ====
section
/-! SUPPORT. One lemma per field per named update of the state, each true by unfolding the update once. -/

namespace Sys2Proof.Machine

/-! noteWrbusy -/

@[simp] theorem State.noteWrbusy_state (s : State) : s.noteWrbusy.state = s.state := rfl
@[simp] theorem State.noteWrbusy_done (s : State) : s.noteWrbusy.done = s.done := rfl
@[simp] theorem State.noteWrbusy_wrbusy (s : State) : s.noteWrbusy.wrbusy = true := rfl
@[simp] theorem State.noteWrbusy_cmderr (s : State) : s.noteWrbusy.cmderr = s.cmderr := rfl
@[simp] theorem State.noteWrbusy_sinksel (s : State) : s.noteWrbusy.sinksel = s.sinksel := rfl
@[simp] theorem State.noteWrbusy_errcode (s : State) : s.noteWrbusy.errcode = s.errcode := rfl
@[simp] theorem State.noteWrbusy_errinfo (s : State) : s.noteWrbusy.errinfo = s.errinfo := rfl
@[simp] theorem State.noteWrbusy_ien (s : State) : s.noteWrbusy.ien = s.ien := rfl
@[simp] theorem State.noteWrbusy_ipend (s : State) : s.noteWrbusy.ipend = s.ipend ||| hazIp := rfl
@[simp] theorem State.noteWrbusy_srate (s : State) : s.noteWrbusy.srate = s.srate := rfl
@[simp] theorem State.noteWrbusy_tsym (s : State) : s.noteWrbusy.tsym = s.tsym := rfl
@[simp] theorem State.noteWrbusy_basef (s : State) : s.noteWrbusy.basef = s.basef := rfl
@[simp] theorem State.noteWrbusy_bt (s : State) : s.noteWrbusy.bt = s.bt := rfl
@[simp] theorem State.noteWrbusy_nsym (s : State) : s.noteWrbusy.nsym = s.nsym := rfl
@[simp] theorem State.noteWrbusy_tones (s : State) : s.noteWrbusy.tones = s.tones := rfl
@[simp] theorem State.noteWrbusy_nsps (s : State) : s.noteWrbusy.nsps = s.nsps := rfl
@[simp] theorem State.noteWrbusy_ntot (s : State) : s.noteWrbusy.ntot = s.ntot := rfl
@[simp] theorem State.noteWrbusy_fcw0 (s : State) : s.noteWrbusy.fcw0 = s.fcw0 := rfl
@[simp] theorem State.noteWrbusy_ncnt (s : State) : s.noteWrbusy.ncnt = s.ncnt := rfl
@[simp] theorem State.noteWrbusy_kidx (s : State) : s.noteWrbusy.kidx = s.kidx := rfl
@[simp] theorem State.noteWrbusy_jidx (s : State) : s.noteWrbusy.jidx = s.jidx := rfl
@[simp] theorem State.noteWrbusy_phase (s : State) : s.noteWrbusy.phase = s.phase := rfl
@[simp] theorem State.noteWrbusy_out (s : State) : s.noteWrbusy.out = s.out := rfl
@[simp] theorem State.noteWrbusy_outValid (s : State) : s.noteWrbusy.outValid = s.outValid := rfl
@[simp] theorem State.noteWrbusy_outLast (s : State) : s.noteWrbusy.outLast = s.outLast := rfl
@[simp] theorem State.noteWrbusy_sym (s : State) : s.noteWrbusy.sym = s.sym := rfl
@[simp] theorem State.noteWrbusy_inputs (s : State) : s.noteWrbusy.inputs = s.inputs := rfl
@[simp] theorem State.noteWrbusy_rdata (s : State) : s.noteWrbusy.rdata = s.rdata := rfl
@[simp] theorem State.noteWrbusy_delivered (s : State) : s.noteWrbusy.delivered = s.delivered := rfl

/-! noteCmderr -/

@[simp] theorem State.noteCmderr_state (s : State) : s.noteCmderr.state = s.state := rfl
@[simp] theorem State.noteCmderr_done (s : State) : s.noteCmderr.done = s.done := rfl
@[simp] theorem State.noteCmderr_wrbusy (s : State) : s.noteCmderr.wrbusy = s.wrbusy := rfl
@[simp] theorem State.noteCmderr_cmderr (s : State) : s.noteCmderr.cmderr = true := rfl
@[simp] theorem State.noteCmderr_sinksel (s : State) : s.noteCmderr.sinksel = s.sinksel := rfl
@[simp] theorem State.noteCmderr_errcode (s : State) : s.noteCmderr.errcode = s.errcode := rfl
@[simp] theorem State.noteCmderr_errinfo (s : State) : s.noteCmderr.errinfo = s.errinfo := rfl
@[simp] theorem State.noteCmderr_ien (s : State) : s.noteCmderr.ien = s.ien := rfl
@[simp] theorem State.noteCmderr_ipend (s : State) : s.noteCmderr.ipend = s.ipend ||| hazIp := rfl
@[simp] theorem State.noteCmderr_srate (s : State) : s.noteCmderr.srate = s.srate := rfl
@[simp] theorem State.noteCmderr_tsym (s : State) : s.noteCmderr.tsym = s.tsym := rfl
@[simp] theorem State.noteCmderr_basef (s : State) : s.noteCmderr.basef = s.basef := rfl
@[simp] theorem State.noteCmderr_bt (s : State) : s.noteCmderr.bt = s.bt := rfl
@[simp] theorem State.noteCmderr_nsym (s : State) : s.noteCmderr.nsym = s.nsym := rfl
@[simp] theorem State.noteCmderr_tones (s : State) : s.noteCmderr.tones = s.tones := rfl
@[simp] theorem State.noteCmderr_nsps (s : State) : s.noteCmderr.nsps = s.nsps := rfl
@[simp] theorem State.noteCmderr_ntot (s : State) : s.noteCmderr.ntot = s.ntot := rfl
@[simp] theorem State.noteCmderr_fcw0 (s : State) : s.noteCmderr.fcw0 = s.fcw0 := rfl
@[simp] theorem State.noteCmderr_ncnt (s : State) : s.noteCmderr.ncnt = s.ncnt := rfl
@[simp] theorem State.noteCmderr_kidx (s : State) : s.noteCmderr.kidx = s.kidx := rfl
@[simp] theorem State.noteCmderr_jidx (s : State) : s.noteCmderr.jidx = s.jidx := rfl
@[simp] theorem State.noteCmderr_phase (s : State) : s.noteCmderr.phase = s.phase := rfl
@[simp] theorem State.noteCmderr_out (s : State) : s.noteCmderr.out = s.out := rfl
@[simp] theorem State.noteCmderr_outValid (s : State) : s.noteCmderr.outValid = s.outValid := rfl
@[simp] theorem State.noteCmderr_outLast (s : State) : s.noteCmderr.outLast = s.outLast := rfl
@[simp] theorem State.noteCmderr_sym (s : State) : s.noteCmderr.sym = s.sym := rfl
@[simp] theorem State.noteCmderr_inputs (s : State) : s.noteCmderr.inputs = s.inputs := rfl
@[simp] theorem State.noteCmderr_rdata (s : State) : s.noteCmderr.rdata = s.rdata := rfl
@[simp] theorem State.noteCmderr_delivered (s : State) : s.noteCmderr.delivered = s.delivered := rfl

/-! raiseInvalidParameters -/

@[simp] theorem State.raiseInvalidParameters_state (s : State) (c : BitVec 8) (w : Word) : (s.raiseInvalidParameters c w).state = .fault := rfl
@[simp] theorem State.raiseInvalidParameters_done (s : State) (c : BitVec 8) (w : Word) : (s.raiseInvalidParameters c w).done = s.done := rfl
@[simp] theorem State.raiseInvalidParameters_wrbusy (s : State) (c : BitVec 8) (w : Word) : (s.raiseInvalidParameters c w).wrbusy = s.wrbusy := rfl
@[simp] theorem State.raiseInvalidParameters_cmderr (s : State) (c : BitVec 8) (w : Word) : (s.raiseInvalidParameters c w).cmderr = s.cmderr := rfl
@[simp] theorem State.raiseInvalidParameters_sinksel (s : State) (c : BitVec 8) (w : Word) : (s.raiseInvalidParameters c w).sinksel = s.sinksel := rfl
@[simp] theorem State.raiseInvalidParameters_errcode (s : State) (c : BitVec 8) (w : Word) : (s.raiseInvalidParameters c w).errcode = errcodeOf c := rfl
@[simp] theorem State.raiseInvalidParameters_errinfo (s : State) (c : BitVec 8) (w : Word) : (s.raiseInvalidParameters c w).errinfo = w := rfl
@[simp] theorem State.raiseInvalidParameters_ien (s : State) (c : BitVec 8) (w : Word) : (s.raiseInvalidParameters c w).ien = s.ien := rfl
@[simp] theorem State.raiseInvalidParameters_ipend (s : State) (c : BitVec 8) (w : Word) : (s.raiseInvalidParameters c w).ipend = s.ipend ||| errIp := rfl
@[simp] theorem State.raiseInvalidParameters_srate (s : State) (c : BitVec 8) (w : Word) : (s.raiseInvalidParameters c w).srate = s.srate := rfl
@[simp] theorem State.raiseInvalidParameters_tsym (s : State) (c : BitVec 8) (w : Word) : (s.raiseInvalidParameters c w).tsym = s.tsym := rfl
@[simp] theorem State.raiseInvalidParameters_basef (s : State) (c : BitVec 8) (w : Word) : (s.raiseInvalidParameters c w).basef = s.basef := rfl
@[simp] theorem State.raiseInvalidParameters_bt (s : State) (c : BitVec 8) (w : Word) : (s.raiseInvalidParameters c w).bt = s.bt := rfl
@[simp] theorem State.raiseInvalidParameters_nsym (s : State) (c : BitVec 8) (w : Word) : (s.raiseInvalidParameters c w).nsym = s.nsym := rfl
@[simp] theorem State.raiseInvalidParameters_tones (s : State) (c : BitVec 8) (w : Word) : (s.raiseInvalidParameters c w).tones = s.tones := rfl
@[simp] theorem State.raiseInvalidParameters_nsps (s : State) (c : BitVec 8) (w : Word) : (s.raiseInvalidParameters c w).nsps = 0#16 := rfl
@[simp] theorem State.raiseInvalidParameters_ntot (s : State) (c : BitVec 8) (w : Word) : (s.raiseInvalidParameters c w).ntot = 0#32 := rfl
@[simp] theorem State.raiseInvalidParameters_fcw0 (s : State) (c : BitVec 8) (w : Word) : (s.raiseInvalidParameters c w).fcw0 = 0#32 := rfl
@[simp] theorem State.raiseInvalidParameters_ncnt (s : State) (c : BitVec 8) (w : Word) : (s.raiseInvalidParameters c w).ncnt = s.ncnt := rfl
@[simp] theorem State.raiseInvalidParameters_kidx (s : State) (c : BitVec 8) (w : Word) : (s.raiseInvalidParameters c w).kidx = s.kidx := rfl
@[simp] theorem State.raiseInvalidParameters_jidx (s : State) (c : BitVec 8) (w : Word) : (s.raiseInvalidParameters c w).jidx = s.jidx := rfl
@[simp] theorem State.raiseInvalidParameters_phase (s : State) (c : BitVec 8) (w : Word) : (s.raiseInvalidParameters c w).phase = s.phase := rfl
@[simp] theorem State.raiseInvalidParameters_out (s : State) (c : BitVec 8) (w : Word) : (s.raiseInvalidParameters c w).out = s.out := rfl
@[simp] theorem State.raiseInvalidParameters_outValid (s : State) (c : BitVec 8) (w : Word) : (s.raiseInvalidParameters c w).outValid = s.outValid := rfl
@[simp] theorem State.raiseInvalidParameters_outLast (s : State) (c : BitVec 8) (w : Word) : (s.raiseInvalidParameters c w).outLast = s.outLast := rfl
@[simp] theorem State.raiseInvalidParameters_sym (s : State) (c : BitVec 8) (w : Word) : (s.raiseInvalidParameters c w).sym = s.sym := rfl
@[simp] theorem State.raiseInvalidParameters_inputs (s : State) (c : BitVec 8) (w : Word) : (s.raiseInvalidParameters c w).inputs = s.inputs := rfl
@[simp] theorem State.raiseInvalidParameters_rdata (s : State) (c : BitVec 8) (w : Word) : (s.raiseInvalidParameters c w).rdata = s.rdata := rfl
@[simp] theorem State.raiseInvalidParameters_delivered (s : State) (c : BitVec 8) (w : Word) : (s.raiseInvalidParameters c w).delivered = s.delivered := rfl

/-! resetRegisters -/

@[simp] theorem State.resetRegisters_state (s : State) : s.resetRegisters.state = .idle := rfl
@[simp] theorem State.resetRegisters_done (s : State) : s.resetRegisters.done = false := rfl
@[simp] theorem State.resetRegisters_wrbusy (s : State) : s.resetRegisters.wrbusy = false := rfl
@[simp] theorem State.resetRegisters_cmderr (s : State) : s.resetRegisters.cmderr = false := rfl
@[simp] theorem State.resetRegisters_sinksel (s : State) : s.resetRegisters.sinksel = false := rfl
@[simp] theorem State.resetRegisters_errcode (s : State) : s.resetRegisters.errcode = 0#16 := rfl
@[simp] theorem State.resetRegisters_errinfo (s : State) : s.resetRegisters.errinfo = 0#32 := rfl
@[simp] theorem State.resetRegisters_ien (s : State) : s.resetRegisters.ien = 0#3 := rfl
@[simp] theorem State.resetRegisters_ipend (s : State) : s.resetRegisters.ipend = 0#3 := rfl
@[simp] theorem State.resetRegisters_srate (s : State) : s.resetRegisters.srate = 0#32 := rfl
@[simp] theorem State.resetRegisters_tsym (s : State) : s.resetRegisters.tsym = 0#32 := rfl
@[simp] theorem State.resetRegisters_basef (s : State) : s.resetRegisters.basef = 0#32 := rfl
@[simp] theorem State.resetRegisters_bt (s : State) : s.resetRegisters.bt = 0#32 := rfl
@[simp] theorem State.resetRegisters_nsym (s : State) : s.resetRegisters.nsym = 0#32 := rfl
@[simp] theorem State.resetRegisters_tones (s : State) : s.resetRegisters.tones = 0#32 := rfl
@[simp] theorem State.resetRegisters_nsps (s : State) : s.resetRegisters.nsps = 0#16 := rfl
@[simp] theorem State.resetRegisters_ntot (s : State) : s.resetRegisters.ntot = 0#32 := rfl
@[simp] theorem State.resetRegisters_fcw0 (s : State) : s.resetRegisters.fcw0 = 0#32 := rfl
@[simp] theorem State.resetRegisters_ncnt (s : State) : s.resetRegisters.ncnt = 0#32 := rfl
@[simp] theorem State.resetRegisters_kidx (s : State) : s.resetRegisters.kidx = 0#9 := rfl
@[simp] theorem State.resetRegisters_jidx (s : State) : s.resetRegisters.jidx = 0#16 := rfl
@[simp] theorem State.resetRegisters_phase (s : State) : s.resetRegisters.phase = 0#32 := rfl
@[simp] theorem State.resetRegisters_out (s : State) : s.resetRegisters.out = 0#32 := rfl
@[simp] theorem State.resetRegisters_outValid (s : State) : s.resetRegisters.outValid = false := rfl
@[simp] theorem State.resetRegisters_outLast (s : State) : s.resetRegisters.outLast = false := rfl
@[simp] theorem State.resetRegisters_sym (s : State) : s.resetRegisters.sym = s.sym := rfl
@[simp] theorem State.resetRegisters_inputs (s : State) : s.resetRegisters.inputs = s.inputs := rfl
@[simp] theorem State.resetRegisters_rdata (s : State) : s.resetRegisters.rdata = s.rdata := rfl
@[simp] theorem State.resetRegisters_delivered (s : State) : s.resetRegisters.delivered = s.delivered := rfl

/-! hardReset -/

@[simp] theorem State.hardReset_state (s : State) (m : Memory) : (s.hardReset m).state = .idle := rfl
@[simp] theorem State.hardReset_done (s : State) (m : Memory) : (s.hardReset m).done = false := rfl
@[simp] theorem State.hardReset_wrbusy (s : State) (m : Memory) : (s.hardReset m).wrbusy = false := rfl
@[simp] theorem State.hardReset_cmderr (s : State) (m : Memory) : (s.hardReset m).cmderr = false := rfl
@[simp] theorem State.hardReset_sinksel (s : State) (m : Memory) : (s.hardReset m).sinksel = false := rfl
@[simp] theorem State.hardReset_errcode (s : State) (m : Memory) : (s.hardReset m).errcode = 0#16 := rfl
@[simp] theorem State.hardReset_errinfo (s : State) (m : Memory) : (s.hardReset m).errinfo = 0#32 := rfl
@[simp] theorem State.hardReset_ien (s : State) (m : Memory) : (s.hardReset m).ien = 0#3 := rfl
@[simp] theorem State.hardReset_ipend (s : State) (m : Memory) : (s.hardReset m).ipend = 0#3 := rfl
@[simp] theorem State.hardReset_srate (s : State) (m : Memory) : (s.hardReset m).srate = 0#32 := rfl
@[simp] theorem State.hardReset_tsym (s : State) (m : Memory) : (s.hardReset m).tsym = 0#32 := rfl
@[simp] theorem State.hardReset_basef (s : State) (m : Memory) : (s.hardReset m).basef = 0#32 := rfl
@[simp] theorem State.hardReset_bt (s : State) (m : Memory) : (s.hardReset m).bt = 0#32 := rfl
@[simp] theorem State.hardReset_nsym (s : State) (m : Memory) : (s.hardReset m).nsym = 0#32 := rfl
@[simp] theorem State.hardReset_tones (s : State) (m : Memory) : (s.hardReset m).tones = 0#32 := rfl
@[simp] theorem State.hardReset_nsps (s : State) (m : Memory) : (s.hardReset m).nsps = 0#16 := rfl
@[simp] theorem State.hardReset_ntot (s : State) (m : Memory) : (s.hardReset m).ntot = 0#32 := rfl
@[simp] theorem State.hardReset_fcw0 (s : State) (m : Memory) : (s.hardReset m).fcw0 = 0#32 := rfl
@[simp] theorem State.hardReset_ncnt (s : State) (m : Memory) : (s.hardReset m).ncnt = 0#32 := rfl
@[simp] theorem State.hardReset_kidx (s : State) (m : Memory) : (s.hardReset m).kidx = 0#9 := rfl
@[simp] theorem State.hardReset_jidx (s : State) (m : Memory) : (s.hardReset m).jidx = 0#16 := rfl
@[simp] theorem State.hardReset_phase (s : State) (m : Memory) : (s.hardReset m).phase = 0#32 := rfl
@[simp] theorem State.hardReset_out (s : State) (m : Memory) : (s.hardReset m).out = 0#32 := rfl
@[simp] theorem State.hardReset_outValid (s : State) (m : Memory) : (s.hardReset m).outValid = false := rfl
@[simp] theorem State.hardReset_outLast (s : State) (m : Memory) : (s.hardReset m).outLast = false := rfl
@[simp] theorem State.hardReset_sym (s : State) (m : Memory) : (s.hardReset m).sym = Memory.ofCells m := rfl
@[simp] theorem State.hardReset_inputs (s : State) (m : Memory) : (s.hardReset m).inputs = s.inputs := rfl
@[simp] theorem State.hardReset_rdata (s : State) (m : Memory) : (s.hardReset m).rdata = s.rdata := rfl
@[simp] theorem State.hardReset_delivered (s : State) (m : Memory) : (s.hardReset m).delivered = s.delivered := rfl

/-! take -/

@[simp] theorem State.take_state (s : State) (d : Delivery) : (s.take d).state = s.state := rfl
@[simp] theorem State.take_done (s : State) (d : Delivery) : (s.take d).done = s.done := rfl
@[simp] theorem State.take_wrbusy (s : State) (d : Delivery) : (s.take d).wrbusy = s.wrbusy := rfl
@[simp] theorem State.take_cmderr (s : State) (d : Delivery) : (s.take d).cmderr = s.cmderr := rfl
@[simp] theorem State.take_sinksel (s : State) (d : Delivery) : (s.take d).sinksel = s.sinksel := rfl
@[simp] theorem State.take_errcode (s : State) (d : Delivery) : (s.take d).errcode = s.errcode := rfl
@[simp] theorem State.take_errinfo (s : State) (d : Delivery) : (s.take d).errinfo = s.errinfo := rfl
@[simp] theorem State.take_ien (s : State) (d : Delivery) : (s.take d).ien = s.ien := rfl
@[simp] theorem State.take_ipend (s : State) (d : Delivery) : (s.take d).ipend = s.ipend := rfl
@[simp] theorem State.take_srate (s : State) (d : Delivery) : (s.take d).srate = s.srate := rfl
@[simp] theorem State.take_tsym (s : State) (d : Delivery) : (s.take d).tsym = s.tsym := rfl
@[simp] theorem State.take_basef (s : State) (d : Delivery) : (s.take d).basef = s.basef := rfl
@[simp] theorem State.take_bt (s : State) (d : Delivery) : (s.take d).bt = s.bt := rfl
@[simp] theorem State.take_nsym (s : State) (d : Delivery) : (s.take d).nsym = s.nsym := rfl
@[simp] theorem State.take_tones (s : State) (d : Delivery) : (s.take d).tones = s.tones := rfl
@[simp] theorem State.take_nsps (s : State) (d : Delivery) : (s.take d).nsps = s.nsps := rfl
@[simp] theorem State.take_ntot (s : State) (d : Delivery) : (s.take d).ntot = s.ntot := rfl
@[simp] theorem State.take_fcw0 (s : State) (d : Delivery) : (s.take d).fcw0 = s.fcw0 := rfl
@[simp] theorem State.take_ncnt (s : State) (d : Delivery) : (s.take d).ncnt = s.ncnt := rfl
@[simp] theorem State.take_kidx (s : State) (d : Delivery) : (s.take d).kidx = s.kidx := rfl
@[simp] theorem State.take_jidx (s : State) (d : Delivery) : (s.take d).jidx = s.jidx := rfl
@[simp] theorem State.take_phase (s : State) (d : Delivery) : (s.take d).phase = s.phase := rfl
@[simp] theorem State.take_out (s : State) (d : Delivery) : (s.take d).out = s.out := rfl
@[simp] theorem State.take_outValid (s : State) (d : Delivery) : (s.take d).outValid = false := rfl
@[simp] theorem State.take_outLast (s : State) (d : Delivery) : (s.take d).outLast = s.outLast := rfl
@[simp] theorem State.take_sym (s : State) (d : Delivery) : (s.take d).sym = s.sym := rfl
@[simp] theorem State.take_inputs (s : State) (d : Delivery) : (s.take d).inputs = s.inputs := rfl
@[simp] theorem State.take_rdata (s : State) (d : Delivery) : (s.take d).rdata = s.rdata := rfl
@[simp] theorem State.take_delivered (s : State) (d : Delivery) : (s.take d).delivered = d :: s.delivered := rfl

/-! beginRun -/

@[simp] theorem State.beginRun_state (s : State) : s.beginRun.state = .run := rfl
@[simp] theorem State.beginRun_done (s : State) : s.beginRun.done = s.done := rfl
@[simp] theorem State.beginRun_wrbusy (s : State) : s.beginRun.wrbusy = s.wrbusy := rfl
@[simp] theorem State.beginRun_cmderr (s : State) : s.beginRun.cmderr = s.cmderr := rfl
@[simp] theorem State.beginRun_sinksel (s : State) : s.beginRun.sinksel = s.sinksel := rfl
@[simp] theorem State.beginRun_errcode (s : State) : s.beginRun.errcode = s.errcode := rfl
@[simp] theorem State.beginRun_errinfo (s : State) : s.beginRun.errinfo = s.errinfo := rfl
@[simp] theorem State.beginRun_ien (s : State) : s.beginRun.ien = s.ien := rfl
@[simp] theorem State.beginRun_ipend (s : State) : s.beginRun.ipend = s.ipend := rfl
@[simp] theorem State.beginRun_srate (s : State) : s.beginRun.srate = s.srate := rfl
@[simp] theorem State.beginRun_tsym (s : State) : s.beginRun.tsym = s.tsym := rfl
@[simp] theorem State.beginRun_basef (s : State) : s.beginRun.basef = s.basef := rfl
@[simp] theorem State.beginRun_bt (s : State) : s.beginRun.bt = s.bt := rfl
@[simp] theorem State.beginRun_nsym (s : State) : s.beginRun.nsym = s.nsym := rfl
@[simp] theorem State.beginRun_tones (s : State) : s.beginRun.tones = s.tones := rfl
@[simp] theorem State.beginRun_nsps (s : State) : s.beginRun.nsps = BitVec.ofNat 16 (samplesPerSymbol s.srate s.tsym) := rfl
@[simp] theorem State.beginRun_ntot (s : State) : s.beginRun.ntot = BitVec.ofNat 32 (s.nsym.toNat * samplesPerSymbol s.srate s.tsym) := rfl
@[simp] theorem State.beginRun_fcw0 (s : State) : s.beginRun.fcw0 = baseIncrement s.basef s.srate := rfl
@[simp] theorem State.beginRun_ncnt (s : State) : s.beginRun.ncnt = 0#32 := rfl
@[simp] theorem State.beginRun_kidx (s : State) : s.beginRun.kidx = 0#9 := rfl
@[simp] theorem State.beginRun_jidx (s : State) : s.beginRun.jidx = 0#16 := rfl
@[simp] theorem State.beginRun_phase (s : State) : s.beginRun.phase = 0#32 := rfl
@[simp] theorem State.beginRun_out (s : State) : s.beginRun.out = s.out := rfl
@[simp] theorem State.beginRun_outValid (s : State) : s.beginRun.outValid = false := rfl
@[simp] theorem State.beginRun_outLast (s : State) : s.beginRun.outLast = false := rfl
@[simp] theorem State.beginRun_sym (s : State) : s.beginRun.sym = s.sym := rfl
@[simp] theorem State.beginRun_inputs (s : State) : s.beginRun.inputs = s.inputs := rfl
@[simp] theorem State.beginRun_rdata (s : State) : s.beginRun.rdata = s.rdata := rfl
@[simp] theorem State.beginRun_delivered (s : State) : s.beginRun.delivered = s.delivered := rfl

/-! emitSample -/

@[simp] theorem State.emitSample_state (s : State) : s.emitSample.state = s.state := rfl
@[simp] theorem State.emitSample_done (s : State) : s.emitSample.done = s.done := rfl
@[simp] theorem State.emitSample_wrbusy (s : State) : s.emitSample.wrbusy = s.wrbusy := rfl
@[simp] theorem State.emitSample_cmderr (s : State) : s.emitSample.cmderr = s.cmderr := rfl
@[simp] theorem State.emitSample_sinksel (s : State) : s.emitSample.sinksel = s.sinksel := rfl
@[simp] theorem State.emitSample_errcode (s : State) : s.emitSample.errcode = s.errcode := rfl
@[simp] theorem State.emitSample_errinfo (s : State) : s.emitSample.errinfo = s.errinfo := rfl
@[simp] theorem State.emitSample_ien (s : State) : s.emitSample.ien = s.ien := rfl
@[simp] theorem State.emitSample_ipend (s : State) : s.emitSample.ipend = s.ipend := rfl
@[simp] theorem State.emitSample_srate (s : State) : s.emitSample.srate = s.srate := rfl
@[simp] theorem State.emitSample_tsym (s : State) : s.emitSample.tsym = s.tsym := rfl
@[simp] theorem State.emitSample_basef (s : State) : s.emitSample.basef = s.basef := rfl
@[simp] theorem State.emitSample_bt (s : State) : s.emitSample.bt = s.bt := rfl
@[simp] theorem State.emitSample_nsym (s : State) : s.emitSample.nsym = s.nsym := rfl
@[simp] theorem State.emitSample_tones (s : State) : s.emitSample.tones = s.tones := rfl
@[simp] theorem State.emitSample_nsps (s : State) : s.emitSample.nsps = s.nsps := rfl
@[simp] theorem State.emitSample_ntot (s : State) : s.emitSample.ntot = s.ntot := rfl
@[simp] theorem State.emitSample_fcw0 (s : State) : s.emitSample.fcw0 = s.fcw0 := rfl
@[simp] theorem State.emitSample_ncnt (s : State) : s.emitSample.ncnt = s.ncnt + 1#32 := rfl
@[simp] theorem State.emitSample_kidx (s : State) : s.emitSample.kidx = (if s.endsSymbol then s.kidx + 1#9 else s.kidx) := rfl
@[simp] theorem State.emitSample_jidx (s : State) : s.emitSample.jidx = (if s.endsSymbol then 0#16 else s.jidx + 1#16) := rfl
@[simp] theorem State.emitSample_phase (s : State) : s.emitSample.phase = s.phase + s.nextIncrement := rfl
@[simp] theorem State.emitSample_out (s : State) : s.emitSample.out = sinf s.phase := rfl
@[simp] theorem State.emitSample_outValid (s : State) : s.emitSample.outValid = true := rfl
@[simp] theorem State.emitSample_outLast (s : State) : s.emitSample.outLast = s.endsRun := rfl
@[simp] theorem State.emitSample_sym (s : State) : s.emitSample.sym = s.sym := rfl
@[simp] theorem State.emitSample_inputs (s : State) : s.emitSample.inputs = s.inputs := rfl
@[simp] theorem State.emitSample_rdata (s : State) : s.emitSample.rdata = s.rdata := rfl
@[simp] theorem State.emitSample_delivered (s : State) : s.emitSample.delivered = s.delivered := rfl

/-! clearError -/

@[simp] theorem State.clearError_state (s : State) : s.clearError.state = (if s.state = .fault then .idle else s.state) := by
  unfold State.clearError; cases s.state <;> simp
@[simp] theorem State.clearError_done (s : State) : s.clearError.done = s.done := by
  unfold State.clearError; cases s.state <;> rfl
@[simp] theorem State.clearError_wrbusy (s : State) : s.clearError.wrbusy = false := by
  unfold State.clearError; cases s.state <;> rfl
@[simp] theorem State.clearError_cmderr (s : State) : s.clearError.cmderr = false := by
  unfold State.clearError; cases s.state <;> rfl
@[simp] theorem State.clearError_sinksel (s : State) : s.clearError.sinksel = s.sinksel := by
  unfold State.clearError; cases s.state <;> rfl
@[simp] theorem State.clearError_errcode (s : State) : s.clearError.errcode = (if s.state = .fault then 0#16 else s.errcode) := by
  unfold State.clearError; cases s.state <;> simp
@[simp] theorem State.clearError_errinfo (s : State) : s.clearError.errinfo = (if s.state = .fault then 0#32 else s.errinfo) := by
  unfold State.clearError; cases s.state <;> simp
@[simp] theorem State.clearError_ien (s : State) : s.clearError.ien = s.ien := by
  unfold State.clearError; cases s.state <;> rfl
@[simp] theorem State.clearError_ipend (s : State) : s.clearError.ipend = s.ipend := by
  unfold State.clearError; cases s.state <;> rfl
@[simp] theorem State.clearError_srate (s : State) : s.clearError.srate = s.srate := by
  unfold State.clearError; cases s.state <;> rfl
@[simp] theorem State.clearError_tsym (s : State) : s.clearError.tsym = s.tsym := by
  unfold State.clearError; cases s.state <;> rfl
@[simp] theorem State.clearError_basef (s : State) : s.clearError.basef = s.basef := by
  unfold State.clearError; cases s.state <;> rfl
@[simp] theorem State.clearError_bt (s : State) : s.clearError.bt = s.bt := by
  unfold State.clearError; cases s.state <;> rfl
@[simp] theorem State.clearError_nsym (s : State) : s.clearError.nsym = s.nsym := by
  unfold State.clearError; cases s.state <;> rfl
@[simp] theorem State.clearError_tones (s : State) : s.clearError.tones = s.tones := by
  unfold State.clearError; cases s.state <;> rfl
@[simp] theorem State.clearError_nsps (s : State) : s.clearError.nsps = s.nsps := by
  unfold State.clearError; cases s.state <;> rfl
@[simp] theorem State.clearError_ntot (s : State) : s.clearError.ntot = s.ntot := by
  unfold State.clearError; cases s.state <;> rfl
@[simp] theorem State.clearError_fcw0 (s : State) : s.clearError.fcw0 = s.fcw0 := by
  unfold State.clearError; cases s.state <;> rfl
@[simp] theorem State.clearError_ncnt (s : State) : s.clearError.ncnt = s.ncnt := by
  unfold State.clearError; cases s.state <;> rfl
@[simp] theorem State.clearError_kidx (s : State) : s.clearError.kidx = s.kidx := by
  unfold State.clearError; cases s.state <;> rfl
@[simp] theorem State.clearError_jidx (s : State) : s.clearError.jidx = s.jidx := by
  unfold State.clearError; cases s.state <;> rfl
@[simp] theorem State.clearError_phase (s : State) : s.clearError.phase = s.phase := by
  unfold State.clearError; cases s.state <;> rfl
@[simp] theorem State.clearError_out (s : State) : s.clearError.out = s.out := by
  unfold State.clearError; cases s.state <;> rfl
@[simp] theorem State.clearError_outValid (s : State) : s.clearError.outValid = s.outValid := by
  unfold State.clearError; cases s.state <;> rfl
@[simp] theorem State.clearError_outLast (s : State) : s.clearError.outLast = s.outLast := by
  unfold State.clearError; cases s.state <;> rfl
@[simp] theorem State.clearError_sym (s : State) : s.clearError.sym = s.sym := by
  unfold State.clearError; cases s.state <;> rfl
@[simp] theorem State.clearError_inputs (s : State) : s.clearError.inputs = s.inputs := by
  unfold State.clearError; cases s.state <;> rfl
@[simp] theorem State.clearError_rdata (s : State) : s.clearError.rdata = s.rdata := by
  unfold State.clearError; cases s.state <;> rfl
@[simp] theorem State.clearError_delivered (s : State) : s.clearError.delivered = s.delivered := by
  unfold State.clearError; cases s.state <;> rfl

end Sys2Proof.Machine
end

