-- ==== Sys2Proof/Laws/Memory.lean ====
section
/-! SUPPORT. The symbol memory: reading after writing, and the canonical form (10_state.md R47). -/

namespace Sys2Proof.Machine

@[simp] theorem Memory.read_nil (a : Nat) : Memory.read [] a = Memory.unlisted := rfl

theorem Memory.read_cons (a' : Nat) (b : Byte) (m : Memory) (a : Nat) :
    Memory.read ((a', b) :: m) a = if a = a' then b else Memory.read m a := rfl

/-- An index below every listed one reads as unlisted. -/
theorem Memory.read_below (m : Memory) (a : Nat) (h : ∀ c ∈ m, a < c.1) : Memory.read m a = Memory.unlisted := by
  induction m with
  | nil => rfl
  | cons c m ih =>
    obtain ⟨a', b⟩ := c
    have h0 : a < a' := h _ List.mem_cons_self
    rw [Memory.read_cons, if_neg (by omega)]
    exact ih fun c hc => h c (List.mem_cons_of_mem _ hc)

/-- A listed index is an old one or the written one. -/
theorem Memory.mem_write {m : Memory} {a : Nat} {b : Byte} {c : Host.Cell} (h : c ∈ Memory.write m a b) :
    c ∈ m ∨ (c = (a, b) ∧ b ≠ Memory.unlisted) := by
  induction m with
  | nil =>
    simp only [Memory.write] at h
    split at h <;> simp_all
  | cons d m ih =>
    obtain ⟨a', b'⟩ := d
    simp only [Memory.write] at h
    split at h
    · split at h <;> simp_all
      tauto
    · split at h
      · split at h <;> simp_all
        tauto
      · rcases List.mem_cons.1 h with h | h
        · exact .inl (h ▸ List.mem_cons_self)
        · rcases ih h with h | h
          · exact .inl (List.mem_cons_of_mem _ h)
          · exact .inr h

/-- A write keeps the canonical form. -/
theorem Memory.write_wf {m : Memory} {a : Nat} {b : Byte} (hm : m.wf) (ha : a < 256) : (Memory.write m a b).wf := by
  refine ⟨?_, fun c hc => ?_⟩
  · have hp := hm.1
    clear hm
    induction m with
    | nil => simp only [Memory.write]; split <;> simp
    | cons d m ih =>
      obtain ⟨a', b'⟩ := d
      rw [List.pairwise_cons] at hp
      simp only [Memory.write]
      split
      · split
        · exact List.pairwise_cons.2 hp
        · refine List.pairwise_cons.2 ⟨fun c hc => ?_, List.pairwise_cons.2 hp⟩
          rcases List.mem_cons.1 hc with rfl | hc
          · assumption
          · have := hp.1 c hc; simp only at this ⊢; omega
      · split
        · split
          · exact hp.2
          · subst_vars; exact List.pairwise_cons.2 hp
        · refine List.pairwise_cons.2 ⟨fun c hc => ?_, ih hp.2⟩
          rcases Memory.mem_write hc with hc | ⟨rfl, -⟩
          · exact hp.1 c hc
          · simp only; omega
  · rcases Memory.mem_write hc with hc | ⟨rfl, hb⟩
    · exact hm.2 c hc
    · exact ⟨ha, hb⟩

/-- Reading after a write: the written entry has the written value, every other entry what it had. -/
theorem Memory.read_write {m : Memory} (hm : m.Pairwise fun c d => c.1 < d.1) (a : Nat) (b : Byte) (a₂ : Nat) :
    Memory.read (Memory.write m a b) a₂ = if a₂ = a then b else Memory.read m a₂ := by
  induction m with
  | nil =>
    simp only [Memory.write]
    split
    · subst_vars; simp
    · simp [Memory.read_cons]
  | cons d m ih =>
    obtain ⟨a', b'⟩ := d
    rw [List.pairwise_cons] at hm
    simp only [Memory.write]
    split
    · split
      · split
        · rename_i hlt hb h2
          subst h2 hb
          exact Memory.read_below _ _ fun c hc => by
            rcases List.mem_cons.1 hc with rfl | hc
            · exact hlt
            · exact hlt.trans (hm.1 c hc)
        · rfl
      · rw [Memory.read_cons]
    · split
      · rename_i _ h1
        subst h1
        split
        · split
          · rename_i hb h2
            subst h2 hb
            exact Memory.read_below _ _ hm.1
          · rename_i h2
            rw [Memory.read_cons, if_neg h2]
        · rw [Memory.read_cons, Memory.read_cons]
          split <;> rfl
      · rw [Memory.read_cons, ih hm.2, Memory.read_cons]
        split_ifs <;> first | rfl | omega

/-- Two memories in canonical form that read alike are equal. -/
theorem Memory.ext_read {m n : Memory} (hm : m.wf) (hn : n.wf) (h : ∀ a, m.read a = n.read a) : m = n := by
  induction m generalizing n with
  | nil =>
    cases n with
    | nil => rfl
    | cons d n =>
      obtain ⟨a', b'⟩ := d
      have := h a'
      rw [Memory.read_cons, if_pos rfl] at this
      exact absurd this.symm (hn.2 _ List.mem_cons_self).2
  | cons c m ih =>
    obtain ⟨a, b⟩ := c
    cases n with
    | nil =>
      have := h a
      rw [Memory.read_cons, if_pos rfl] at this
      exact absurd this (hm.2 _ List.mem_cons_self).2
    | cons d n =>
      obtain ⟨a', b'⟩ := d
      have pm := List.pairwise_cons.1 hm.1
      have pn := List.pairwise_cons.1 hn.1
      have hmb := (hm.2 _ List.mem_cons_self).2
      have hnb := (hn.2 _ List.mem_cons_self).2
      have haa : a = a' := by
        by_contra hne
        rcases Nat.lt_or_gt_of_ne hne with hlt | hlt
        · have := h a
          rw [Memory.read_cons, if_pos rfl, Memory.read_cons, if_neg hne,
            Memory.read_below n a fun c hc => hlt.trans (pn.1 c hc)] at this
          exact hmb this
        · have := h a'
          rw [Memory.read_cons, if_neg (Ne.symm hne), Memory.read_cons, if_pos rfl,
            Memory.read_below m a' fun c hc => hlt.trans (pm.1 c hc)] at this
          exact hnb this.symm
      subst haa
      have hbb := h a
      rw [Memory.read_cons, if_pos rfl, Memory.read_cons, if_pos rfl] at hbb
      subst hbb
      congr 1
      refine ih ⟨pm.2, fun c hc => hm.2 c (List.mem_cons_of_mem _ hc)⟩
        ⟨pn.2, fun c hc => hn.2 c (List.mem_cons_of_mem _ hc)⟩ fun a₂ => ?_
      by_cases h2 : a₂ = a
      · subst h2
        rw [Memory.read_below m a₂ pm.1, Memory.read_below n a₂ pn.1]
      · have := h a₂
        rwa [Memory.read_cons, if_neg h2, Memory.read_cons, if_neg h2] at this

/-- The memory of a list of cells is in canonical form. -/
theorem Memory.ofCells_wf (cs : List Host.Cell) : (Memory.ofCells cs).wf := by
  induction cs with
  | nil => simp [Memory.ofCells, Memory.wf]
  | cons c cs ih =>
    simp only [Memory.ofCells]
    split
    · exact Memory.write_wf ih ‹_›
    · exact ih

/-- Every content of the 256 entries is the memory of some list of cells. -/
theorem Memory.read_ofCells_table (f : Nat → Byte) (n : Nat) (hn : n ≤ 256) (a : Nat) :
    (Memory.ofCells ((List.range n).map fun i => (i, f i))).read a = if a < n then f a else Memory.unlisted := by
  suffices H : ∀ k, k ≤ n → (Memory.ofCells (((List.range n).drop (n - k)).map fun i => (i, f i))).read a =
      if n - k ≤ a ∧ a < n then f a else Memory.unlisted by
    simpa using H n le_rfl
  intro k hk
  induction k with
  | zero =>
    rw [List.drop_of_length_le (by simp), if_neg (by omega)]
    rfl
  | succ k ih =>
    have hd : (List.range n).drop (n - (k + 1)) = (n - (k + 1)) :: (List.range n).drop (n - k) := by
      rw [List.drop_eq_getElem_cons (by simp; omega)]
      simp only [List.getElem_range, List.cons.injEq, true_and]
      congr 1; omega
    rw [hd, List.map_cons]
    simp only [Memory.ofCells]
    rw [if_pos (by omega), Memory.read_write (Memory.ofCells_wf _).1, ih (by omega)]
    by_cases h1 : a = n - (k + 1)
    · rw [if_pos h1, if_pos (by omega), h1]
    · rw [if_neg h1]
      by_cases h2 : n - k ≤ a ∧ a < n
      · rw [if_pos h2, if_pos (by omega)]
      · rw [if_neg h2, if_neg (by omega)]

end Sys2Proof.Machine
end

