-- ==== Sys2Proof/Laws/Ops.lean ====
section
/-! SUPPORT. One lemma per shared operation: everything it can do. -/

namespace Sys2Proof.Machine

/-! Conditions on the state, as propositions. -/

theorem busy_iff (s : State) : busy s = true ↔ s.state = .check ∨ s.state = .run := by
  unfold busy; cases s.state <;> simp

theorem err_iff (s : State) : err s = true ↔ s.state = .fault := by
  unfold err; cases s.state <;> simp

theorem checkEnabled_iff (s : State) : checkEnabled s = true ↔ s.state = .check := by
  unfold checkEnabled; cases s.state <;> simp

theorem emitEnabled_iff (s : State) :
    emitEnabled s = true ↔ s.state = .run ∧ s.outValid = false ∧ s.ncnt.toNat < s.ntot.toNat := by
  unfold emitEnabled; cases s.state <;> simp

theorem finishEnabled_iff (s : State) :
    finishEnabled s = true ↔ s.state = .run ∧ s.outValid = false ∧ s.ncnt = s.ntot := by
  unfold finishEnabled; cases s.state <;> simp

theorem popEnabled_iff (s : State) : popEnabled s = true ↔ s.outValid = true ∧ s.sinksel = false := by
  simp [popEnabled, outTvalid]

theorem emitDomain_iff (s : State) :
    emitDomain s = true ↔ s.kidx.toNat < s.nsym.toNat ∧ s.nsym.toNat ≤ 256 ∧ s.jidx.toNat < s.nsps.toNat ∧
      1 ≤ s.bt.toNat ∧ s.bt.toNat ≤ 0xFFFF := by
  simp only [emitDomain, Bool.and_eq_true, decide_eq_true_eq, and_assoc]

/-! Shared operations. -/

theorem readReturns_eq_next {v : Word} {s t : State} (h : readReturns v s = .next t) :
    t = { s with rdata := some v } := by
  simpa [readReturns] using h.symm

theorem busyProtected_eq_next {s w t : State} (h : busyProtected s w = .next t) :
    (busy s = true ∧ t = s.noteWrbusy) ∨ (busy s = false ∧ t = w) := by
  unfold busyProtected at h
  cases hb : busy s <;> simp [hb] at h <;> simp [h]

theorem busyProtected_of_busy {s w : State} (h : busy s = true) : busyProtected s w = .next s.noteWrbusy := by
  simp [busyProtected, h]

theorem busyProtected_of_not_busy {s w : State} (h : busy s = false) : busyProtected s w = .next w := by
  simp [busyProtected, h]

/-! The scan of the symbols and the tests of `CHECK`. -/

theorem firstBadSymbol_eq_none {m : Memory} {tones n : Nat} :
    firstBadSymbol m tones n = none ↔ ∀ i, i < n → (m.read i).toNat < tones := by
  simp [firstBadSymbol]

theorem firstBadSymbol_eq_some {m : Memory} {tones n i : Nat} :
    firstBadSymbol m tones n = some i ↔
      i < n ∧ tones ≤ (m.read i).toNat ∧ ∀ j, j < i → (m.read j).toNat < tones := by
  simp only [firstBadSymbol, List.find?_range_eq_some, List.mem_range, Bool.not_eq_true', decide_eq_false_iff_not,
    decide_eq_true_eq, not_le]
  tauto

/-- `CHECK` passes exactly the legal arguments. -/
theorem checkFailure_eq_none {s : State} : checkFailure s = none ↔ Legal s := by
  simp only [checkFailure, Config.nspsMax, Config.btMax, Config.nsymMax, Config.tonesMax]
  constructor
  · intro h
    split_ifs at h with h1 h2 h3 h4 h5 h6
    rw [Option.map_eq_none_iff] at h
    exact ⟨by omega, by omega, by omega, by omega, by omega, by omega, by omega, by omega, by omega,
      firstBadSymbol_eq_none.1 h⟩
  · rintro ⟨h1, h2, h3, h4, h5, h6, h7, h8, h9, h10⟩
    rw [if_neg (by omega), if_neg (by omega), if_neg (by omega), if_neg (by omega), if_neg (by omega),
      if_neg (by omega), firstBadSymbol_eq_none.2 h10]
    rfl

/-- A failing test has a cause from 1 to 7. -/
theorem checkFailure_cause {s : State} {c : BitVec 8} {w : Word} (h : checkFailure s = some (c, w)) :
    1 ≤ c.toNat ∧ c.toNat ≤ 7 := by
  simp only [checkFailure] at h
  split_ifs at h <;> first
    | (obtain ⟨rfl, -⟩ : _ ∧ _ := by simpa using h
       decide)
    | (obtain ⟨i, -, h⟩ := Option.map_eq_some_iff.1 h
       obtain ⟨rfl, -⟩ : _ ∧ _ := by simpa using h
       decide)

/-! The engine and sink steps: what each can do. -/

theorem execCheck_eq_next {s t : State} (h : execCheck s = .next t) :
    s.state = .check ∧
      ((∃ c w, checkFailure s = some (c, w) ∧ t = s.raiseInvalidParameters c w) ∨ (Legal s ∧ t = s.beginRun)) := by
  unfold execCheck at h
  split at h
  · rename_i he
    refine ⟨(checkEnabled_iff s).1 he, ?_⟩
    split at h
    · rename_i c w hf
      exact .inl ⟨c, w, hf, by simpa using h.symm⟩
    · rename_i hf
      exact .inr ⟨checkFailure_eq_none.1 hf, by simpa using h.symm⟩
  · simp at h

theorem execEmit_eq_next {s t : State} (h : execEmit s = .next t) :
    emitEnabled s = true ∧ emitDomain s = true ∧ t = s.emitSample := by
  unfold execEmit at h
  split_ifs at h with h1 h2
  exact ⟨h1, h2, by simpa using h.symm⟩

theorem execFinish_eq_next {s t : State} (h : execFinish s = .next t) :
    finishEnabled s = true ∧ t = { s with state := .idle, done := true, ipend := s.ipend ||| doneIp } := by
  unfold execFinish at h
  split_ifs at h with h1
  exact ⟨h1, by simpa using h.symm⟩

theorem execPop_eq_next {s t : State} (h : execPop s = .next t) :
    popEnabled s = true ∧ t = s.take (.beat s.out s.outLast) := by
  unfold execPop at h
  split_ifs at h with h1
  exact ⟨h1, by simpa using h.symm⟩

theorem execRdOutpop_eq_next {s t : State} (h : execRdOutpop s = .next t) :
    (s.sinksel = true ∧ s.outValid = true ∧ t = { s.take (.popped s.out) with rdata := some s.out }) ∨
      (¬ (s.sinksel = true ∧ s.outValid = true) ∧ t = { s with rdata := some Config.noData }) := by
  unfold execRdOutpop at h
  split_ifs at h with h1
  · exact .inl ⟨by simp_all, by simp_all, readReturns_eq_next h⟩
  · exact .inr ⟨by simpa using h1, readReturns_eq_next h⟩

theorem engineSelect_eq_some {s : State} {i : Instr} (h : engineSelect s = some i) :
    (i = .check ∧ checkEnabled s = true) ∨ (i = .emit ∧ emitEnabled s = true) ∨
      (i = .finish ∧ finishEnabled s = true) := by
  unfold engineSelect at h
  split_ifs at h <;> simp_all

end Sys2Proof.Machine
end

