-- ==== Sys2Proof/Laws/Exec.lean ====
section
/-! SUPPORT. Everything one operation can do: the inversion of `exec`, for statements about all operations. -/

namespace Sys2Proof.Machine

/-- An operation of another mnemonic sets no hazard flag. -/
theorem not_hazard_of_mnemonic {i : Instr} {s : State}
    (h : i.mnemonic ∉ "CMD.RSVD" :: "CMD.START" :: busyProtectedMnemonics := by
      simp [Instr.mnemonic, busyProtectedMnemonics]) : ¬ Hazard i s := by
  rintro (⟨-, hm⟩ | hm | ⟨rfl, -⟩)
  · exact h (List.mem_cons_of_mem _ (List.mem_cons_of_mem _ hm))
  · exact h (hm ▸ List.mem_cons_self)
  · exact h (List.mem_cons_of_mem _ List.mem_cons_self)

/-- Outside a run no operation but a reserved command and a refused `START` sets a hazard flag. -/
theorem not_hazard_of_not_busy {i : Instr} {s : State} (hb : busy s = false) (hr : i.mnemonic ≠ "CMD.RSVD")
    (hs : i ≠ .cmdStart) : ¬ Hazard i s := by
  rintro (⟨h, -⟩ | h | ⟨h, -⟩)
  · rw [← busy_iff, hb] at h
    exact absurd h (by decide)
  · exact hr h
  · exact hs h

/-- What `exec i s` can answer as a next state, with the conditions under which it does. -/
inductive Effect (s : State) : Instr → State → Prop where
  /-- A read returns a word and changes nothing else (an `OUTPOP` read that takes nothing among them). -/
  | read (i : Instr) (v : Word) (hi : i ∉ [.cmdClrerr, .cmdSreset, .check, .emit, .finish, .pop])
      (hz : ¬ Hazard i s) (hp : i = .rdOutpop → ¬ (s.sinksel = true ∧ s.outValid = true)) :
      Effect s i { s with rdata := some v }
  /-- Ignored writes, `NOP`, `ABORT` outside a run. -/
  | stay (i : Instr) (hi : i ∉ [.cmdClrerr, .cmdSreset, .check, .emit, .finish, .pop])
      (hz : ¬ Hazard i s) (ha : i = .cmdAbort → busy s = false) : Effect s i s
  /-- A busy-protected write while busy (R141). -/
  | discarded (i : Instr) (hi : i ∉ [.cmdClrerr, .cmdSreset, .check, .emit, .finish, .pop])
      (hb : busy s = true) (hm : i.mnemonic ∈ busyProtectedMnemonics) :
      Effect s i s.noteWrbusy
  | ctrl (v : Word) (hb : busy s = false) : Effect s (.wrCtrl v) { s with sinksel := ctrlOperand v }
  | srate (v : Word) (hb : busy s = false) : Effect s (.wrSrate v) { s with srate := v }
  | tsym (v : Word) (hb : busy s = false) : Effect s (.wrTsym v) { s with tsym := v }
  | basef (v : Word) (hb : busy s = false) : Effect s (.wrBasef v) { s with basef := v }
  | bt (v : Word) (hb : busy s = false) : Effect s (.wrBt v) { s with bt := v }
  | nsym (v : Word) (hb : busy s = false) : Effect s (.wrNsym v) { s with nsym := v }
  | tones (v : Word) (hb : busy s = false) : Effect s (.wrTones v) { s with tones := v }
  | sym (a : Byte) (v : Word) (hb : busy s = false) :
      Effect s (.wrSym a v) { s with sym := Memory.write s.sym a.toNat (symOperand v) }
  | ien (v : Word) : Effect s (.wrIen v) { s with ien := irqOperand v }
  | ipend (v : Word) : Effect s (.wrIpend v) { s with ipend := s.ipend &&& ~~~(irqOperand v) }
  | start (hs : s.state = .idle) : Effect s .cmdStart { s with state := .check, done := false, delivered := [] }
  | refused (hs : s.state ≠ .idle) : Effect s .cmdStart s.noteCmderr
  | reserved (v : Word) : Effect s (.cmdRsvd v) s.noteCmderr
  | abort (hb : busy s = true) :
      Effect s .cmdAbort { s with state := .idle, out := 0#32, outValid := false, outLast := false }
  | clrerr : Effect s .cmdClrerr s.clearError
  | sreset : Effect s .cmdSreset s.resetRegisters
  | raised (c : BitVec 8) (w : Word) (hs : s.state = .check) (hf : checkFailure s = some (c, w)) :
      Effect s .check (s.raiseInvalidParameters c w)
  | begun (hs : s.state = .check) (hl : Legal s) : Effect s .check s.beginRun
  | emitted (he : emitEnabled s = true) (hd : emitDomain s = true) : Effect s .emit s.emitSample
  | finished (he : finishEnabled s = true) :
      Effect s .finish { s with state := .idle, done := true, ipend := s.ipend ||| doneIp }
  | popped (he : popEnabled s = true) : Effect s .pop (s.take (.beat s.out s.outLast))
  | hostTook (hm : s.sinksel = true) (hv : s.outValid = true) :
      Effect s .rdOutpop { s.take (.popped s.out) with rdata := some s.out }

theorem busyProtected_effect {i : Instr} {s w t : State} (h : busyProtected s w = .next t)
    (hi : i.mnemonic ∈ busyProtectedMnemonics)
    (hw : busy s = false → Effect s i w) : Effect s i t := by
  obtain ⟨hb, rfl⟩ | ⟨hb, rfl⟩ := busyProtected_eq_next h
  · exact .discarded i (by rintro hc; fin_cases hc <;> simp [Instr.mnemonic, busyProtectedMnemonics] at hi) hb hi
  · exact hw hb

theorem readReturns_effect {i : Instr} {v : Word} {s t : State} (h : readReturns v s = .next t)
    (hi : i ∉ [.cmdClrerr, .cmdSreset, .check, .emit, .finish, .pop]) (hz : ¬ Hazard i s) (hp : i ≠ .rdOutpop) :
    Effect s i t := by
  obtain rfl := readReturns_eq_next h
  exact .read i v hi hz fun hc => absurd hc hp

theorem next_effect {i : Instr} {s t w : State} (h : (.next w : Result) = .next t) (hw : Effect s i w) :
    Effect s i t := by
  obtain rfl : w = t := by simpa using h
  exact hw

theorem execCmdStart_effect {s t : State} (h : execCmdStart s = .next t) : Effect s .cmdStart t := by
  unfold execCmdStart at h
  split at h
  · exact next_effect h (.start ‹_›)
  all_goals exact next_effect h (.refused (by simp [*]))

theorem execCmdAbort_effect {s t : State} (h : execCmdAbort s = .next t) : Effect s .cmdAbort t := by
  unfold execCmdAbort at h
  cases hb : busy s
  · rw [hb] at h
    exact next_effect h (.stay _ (by decide) not_hazard_of_mnemonic fun _ => hb)
  · rw [hb] at h
    exact next_effect h (.abort hb)

/-- The inversion of `exec`. -/
theorem exec_effect {i : Instr} {s t : State} (h : exec i s = .next t) : Effect s i t := by
  cases i
  case cmdNop => exact next_effect h (.stay _ (by decide) not_hazard_of_mnemonic nofun)
  case cmdStart => exact execCmdStart_effect h
  case cmdAbort => exact execCmdAbort_effect h
  case cmdClrerr => exact next_effect h .clrerr
  case cmdSreset => exact next_effect h .sreset
  case cmdRsvd v => exact next_effect h (.reserved v)
  case wrCtrl v => exact busyProtected_effect h (by simp [Instr.mnemonic, busyProtectedMnemonics]) (.ctrl v)
  case wrSrate v => exact busyProtected_effect h (by simp [Instr.mnemonic, busyProtectedMnemonics]) (.srate v)
  case wrTsym v => exact busyProtected_effect h (by simp [Instr.mnemonic, busyProtectedMnemonics]) (.tsym v)
  case wrBasef v => exact busyProtected_effect h (by simp [Instr.mnemonic, busyProtectedMnemonics]) (.basef v)
  case wrBt v => exact busyProtected_effect h (by simp [Instr.mnemonic, busyProtectedMnemonics]) (.bt v)
  case wrNsym v => exact busyProtected_effect h (by simp [Instr.mnemonic, busyProtectedMnemonics]) (.nsym v)
  case wrTones v => exact busyProtected_effect h (by simp [Instr.mnemonic, busyProtectedMnemonics]) (.tones v)
  case wrSym a v => exact busyProtected_effect h (by simp [Instr.mnemonic, busyProtectedMnemonics]) (.sym a v)
  case wrIen v => exact next_effect h (.ien v)
  case wrIpend v => exact next_effect h (.ipend v)
  case check =>
    obtain ⟨hs, ⟨c, w, hf, rfl⟩ | ⟨hl, rfl⟩⟩ := execCheck_eq_next h
    · exact .raised c w hs hf
    · exact .begun hs hl
  case emit =>
    obtain ⟨he, hd, rfl⟩ := execEmit_eq_next h
    exact .emitted he hd
  case finish =>
    obtain ⟨he, rfl⟩ := execFinish_eq_next h
    exact .finished he
  case pop =>
    obtain ⟨he, rfl⟩ := execPop_eq_next h
    exact .popped he
  case rdOutpop =>
    obtain ⟨hm, hv, rfl⟩ | ⟨_, rfl⟩ := execRdOutpop_eq_next h
    · exact .hostTook hm hv
    · exact .read _ _ (by decide) not_hazard_of_mnemonic fun _ => ‹_›
  all_goals first
    | exact readReturns_effect h (by simp) not_hazard_of_mnemonic nofun
    | exact next_effect h (.stay _ (by simp) not_hazard_of_mnemonic nofun)

end Sys2Proof.Machine
end

