-- ==== Sys2Proof/Laws/PerInstr.lean ====
section
/-! SUPPORT. Facts about each operation as syntax, one lemma per constructor. -/

namespace Sys2Proof.Laws.Encodable

/-- A host operation has a transaction word; the engine and sink operations, and only they, have none (30_encoding.md
R119). -/
def Statement (i : Instr) : Prop :=
  (encode i).isNone = ["CHECK", "EMIT", "FINISH", "POP"].contains i.mnemonic

theorem cmdNop : Statement .cmdNop := rfl
theorem cmdStart : Statement .cmdStart := rfl
theorem cmdAbort : Statement .cmdAbort := rfl
theorem cmdClrerr : Statement .cmdClrerr := rfl
theorem cmdSreset : Statement .cmdSreset := rfl
theorem cmdRsvd (imm : Word) : Statement (.cmdRsvd imm) := rfl
theorem rdId : Statement .rdId := rfl
theorem wrRoId (imm : Word) : Statement (.wrRoId imm) := rfl
theorem rdVersion : Statement .rdVersion := rfl
theorem wrRoVersion (imm : Word) : Statement (.wrRoVersion imm) := rfl
theorem rdCap : Statement .rdCap := rfl
theorem wrRoCap (imm : Word) : Statement (.wrRoCap imm) := rfl
theorem rdCtrl : Statement .rdCtrl := rfl
theorem wrCtrl (imm : Word) : Statement (.wrCtrl imm) := rfl
theorem rdCmd : Statement .rdCmd := rfl
theorem rdStatus : Statement .rdStatus := rfl
theorem wrRoStatus (imm : Word) : Statement (.wrRoStatus imm) := rfl
theorem rdErrcode : Statement .rdErrcode := rfl
theorem wrRoErrcode (imm : Word) : Statement (.wrRoErrcode imm) := rfl
theorem rdErrinfo : Statement .rdErrinfo := rfl
theorem wrRoErrinfo (imm : Word) : Statement (.wrRoErrinfo imm) := rfl
theorem rdIen : Statement .rdIen := rfl
theorem wrIen (imm : Word) : Statement (.wrIen imm) := rfl
theorem rdIpend : Statement .rdIpend := rfl
theorem wrIpend (imm : Word) : Statement (.wrIpend imm) := rfl
theorem rdSrate : Statement .rdSrate := rfl
theorem wrSrate (imm : Word) : Statement (.wrSrate imm) := rfl
theorem rdTsym : Statement .rdTsym := rfl
theorem wrTsym (imm : Word) : Statement (.wrTsym imm) := rfl
theorem rdBasef : Statement .rdBasef := rfl
theorem wrBasef (imm : Word) : Statement (.wrBasef imm) := rfl
theorem rdBt : Statement .rdBt := rfl
theorem wrBt (imm : Word) : Statement (.wrBt imm) := rfl
theorem rdNsym : Statement .rdNsym := rfl
theorem wrNsym (imm : Word) : Statement (.wrNsym imm) := rfl
theorem rdTones : Statement .rdTones := rfl
theorem wrTones (imm : Word) : Statement (.wrTones imm) := rfl
theorem rdNsps : Statement .rdNsps := rfl
theorem wrRoNsps (imm : Word) : Statement (.wrRoNsps imm) := rfl
theorem rdNtot : Statement .rdNtot := rfl
theorem wrRoNtot (imm : Word) : Statement (.wrRoNtot imm) := rfl
theorem rdFcw0 : Statement .rdFcw0 := rfl
theorem wrRoFcw0 (imm : Word) : Statement (.wrRoFcw0 imm) := rfl
theorem rdNcnt : Statement .rdNcnt := rfl
theorem wrRoNcnt (imm : Word) : Statement (.wrRoNcnt imm) := rfl
theorem rdKidx : Statement .rdKidx := rfl
theorem wrRoKidx (imm : Word) : Statement (.wrRoKidx imm) := rfl
theorem rdJidx : Statement .rdJidx := rfl
theorem wrRoJidx (imm : Word) : Statement (.wrRoJidx imm) := rfl
theorem rdPhase : Statement .rdPhase := rfl
theorem wrRoPhase (imm : Word) : Statement (.wrRoPhase imm) := rfl
theorem rdOutpeek : Statement .rdOutpeek := rfl
theorem wrRoOutpeek (imm : Word) : Statement (.wrRoOutpeek imm) := rfl
theorem rdOutpop : Statement .rdOutpop := rfl
theorem wrRoOutpop (imm : Word) : Statement (.wrRoOutpop imm) := rfl
theorem rdSym (idx : Byte) : Statement (.rdSym idx) := rfl
theorem wrSym (idx : Byte) (val : Word) : Statement (.wrSym idx val) := rfl
theorem rdRsvd (addr : Addr) : Statement (.rdRsvd addr) := rfl
theorem wrRsvd (addr : Addr) (imm : Word) : Statement (.wrRsvd addr imm) := rfl
theorem check : Statement .check := rfl
theorem emit : Statement .emit := rfl
theorem finish : Statement .finish := rfl
theorem pop : Statement .pop := rfl

end Sys2Proof.Laws.Encodable
end

