-- ==== Sys2Proof/Laws/Pulse.lean ====
section
/-! SUPPORT. The error function and the pulse in fixed point (43_engine_emit.md R232, R233): ranges, oddness, saturation
and the rounding. -/

namespace Sys2Proof.Machine

theorem pulseOne_pos : 0 < pulseOne := by decide

theorem erfMag_le (x : Nat) : erfMag x ≤ pulseOne := by
  unfold erfMag
  split
  · exact le_rfl
  · exact Nat.min_le_left _ _

/-- From 10 on the error function is 1. -/
theorem erfMag_of_ten_le {x : Nat} (h : 10 * pulseOne ≤ x) : erfMag x = pulseOne := if_pos h

@[simp] theorem erfMag_zero : erfMag 0 = 0 := by decide +kernel

@[simp] theorem pulseArg_zero (N B : Nat) : pulseArg N B 0 = 0 := by simp [pulseArg]

theorem erfAt_of_nonneg (N B : Nat) (d : Nat) : erfAt N B d = erfMag (pulseArg N B d) := by
  simp [erfAt]

/-- The error function is odd. -/
theorem erfAt_neg (N B : Nat) (d : Int) : erfAt N B (-d) = -erfAt N B d := by
  rcases lt_trichotomy d 0 with h | rfl | h
  · rw [erfAt, if_pos (by omega), erfAt, if_neg (by omega), Int.natAbs_neg, neg_neg]
  · simp [erfAt]
  · rw [erfAt, if_neg (by omega), erfAt, if_pos (by omega), Int.natAbs_neg]

theorem erfAt_le (N B : Nat) (d : Int) : erfAt N B d ≤ pulseOne := by
  have := erfMag_le (pulseArg N B d.natAbs)
  unfold erfAt
  split <;> omega

theorem neg_le_erfAt (N B : Nat) (d : Int) : -(pulseOne : Int) ≤ erfAt N B d := by
  have := erfMag_le (pulseArg N B d.natAbs)
  unfold erfAt
  split <;> omega

/-- An argument is past 10 for every distance of at least one symbol and every product of at least `480 / 256`. -/
theorem pulseArg_saturates {N B d : Nat} (hN : 1 ≤ N) (hB : 480 ≤ B) (hd : N ≤ d) : 10 * pulseOne ≤ pulseArg N B d := by
  rw [pulseArg, Nat.le_div_iff_mul_le (by omega)]
  calc 10 * pulseOne * (256 * N) ≤ pulseK * 480 * N := by
        rw [← mul_assoc]
        exact Nat.mul_le_mul_right _ (by decide)
    _ ≤ pulseK * B * d := Nat.mul_le_mul (Nat.mul_le_mul_left _ hB) hd

/-- A pulse value is half the difference of the two error functions in units of 2^-15, rounded to the nearest integer. -/
theorem pulseq_rounds {N B i : Nat} (h : erfAt N B ((i : Int) - 2 * N) ≤ erfAt N B ((i : Int) - N)) :
    2 * pulseOne * (pulseq N B i : Int) ≤
        2 ^ 15 * (erfAt N B ((i : Int) - N) - erfAt N B ((i : Int) - 2 * N)) + pulseOne ∧
      2 ^ 15 * (erfAt N B ((i : Int) - N) - erfAt N B ((i : Int) - 2 * N)) <
        2 * pulseOne * (pulseq N B i : Int) + pulseOne := by
  have hp : (0 : Int) < 2 * pulseOne := by have := pulseOne_pos; omega
  obtain ⟨d, hd⟩ : ∃ d, erfAt N B ((i : Int) - N) - erfAt N B ((i : Int) - 2 * N) = d := ⟨_, rfl⟩
  have hd0 : 0 ≤ d := by omega
  rw [pulseq, hd, Int.toNat_of_nonneg (Int.ediv_nonneg (by simp only [Config.wPq]; omega) hp.le)]
  have h1 := Int.mul_ediv_add_emod (2 ^ 15 * d + pulseOne) (2 * pulseOne)
  have h2 := Int.emod_nonneg (2 ^ 15 * d + pulseOne) hp.ne'
  have h3 := Int.emod_lt_of_pos (2 ^ 15 * d + pulseOne) hp
  simp only [Config.wPq]
  constructor <;> linarith

end Sys2Proof.Machine
end

