-- ==== Sys2Proof/Laws/Sine.lean ====
section
/-! SUPPORT. The sine in fixed point (43_engine_emit.md R240, R241): ranges and folding. -/

namespace Sys2Proof.Machine

theorem sineSeries_le (y fuel n : Nat) : sineSeries y fuel n ≤ sineOne := by
  cases fuel
  · exact le_rfl
  · exact Nat.sub_le _ _

theorem sineQuarter_le (q : Nat) : sineQuarter q ≤ sineOne := Nat.min_le_left _ _

/-- The folded phase of a half turn is one of the first quarter turn. -/
theorem foldQuarter_range {psi : Nat} (h0 : 0 < psi) (h1 : psi < 2 ^ 31) :
    0 < foldQuarter psi ∧ foldQuarter psi ≤ 2 ^ 30 := by
  unfold foldQuarter
  split <;> omega

/-- Folding does not tell a phase from its mirror image. -/
theorem foldQuarter_mirror {psi : Nat} (h : psi ≤ 2 ^ 31) : foldQuarter (2 ^ 31 - psi) = foldQuarter psi := by
  unfold foldQuarter
  split <;> split <;> omega

/-- Rounding at a power of two is off by at most half a unit. -/
theorem roundShift_near (m sh : Nat) :
    2 * (roundShift m sh * 2 ^ sh) ≤ 2 * m + 2 ^ sh ∧ 2 * m ≤ 2 * (roundShift m sh * 2 ^ sh) + 2 ^ sh := by
  have hm := Nat.div_add_mod m (2 ^ sh)
  have hr := Nat.mod_lt m (Nat.two_pow_pos sh)
  unfold roundShift
  generalize m / 2 ^ sh = lo at *
  generalize m % 2 ^ sh = r at *
  generalize 2 ^ sh = p at *
  rw [mul_comm] at hm
  simp only
  split_ifs with h1 h2
  · constructor <;> nlinarith
  · have h3 : lo % 2 * p ≤ 1 * p := Nat.mul_le_mul_right p (by omega)
    rw [add_mul]
    omega
  · constructor <;> nlinarith

end Sys2Proof.Machine
end

