-- ==== Sys2Proof/Tests/Slice0.lean ====
section
/-! SUPPORT. Tests: words and expected results are written out from spec/ (30_encoding.md, 95_test_vectors.md), and one
named witness for each statement with hypotheses. -/

namespace Sys2Proof.Tests

open Sys2Proof.Machine

set_option Elab.async false

/-! ## Helpers -/

/-- The next state of an outcome, if there is one. -/
def nextOf : Result → Option State
  | .next s => some s
  | .fault _ => none
  | .refused _ => none

/-- The state after one operation; the same state where it has none. -/
def after (i : Instr) (s : State) : State := (nextOf (exec i s)).getD s

theorem runs {i : Instr} {s : State} (h : (nextOf (exec i s)).isSome = true) : exec i s = .next (after i s) := by
  unfold after
  cases hr : exec i s <;> simp_all [nextOf]

/-- The state after one step; the same state where it has none. -/
def afterStep (s : State) : State := (nextOf (step s)).getD s

theorem steps {s : State} (h : (nextOf (step s)).isSome = true) : step s = .next (afterStep s) := by
  unfold afterStep
  cases hr : step s <;> simp_all [nextOf]

/-- The word a read returns. -/
def readBack (i : Instr) (s : State) : Option Word := (after i { s with rdata := none }).rdata

/-- A state in `IDLE` with given arguments. -/
def args (srate tsym basef bt nsym tones : Word) (sym : Memory) : State :=
  { State.reset with srate := srate, tsym := tsym, basef := basef, bt := bt, nsym := nsym, tones := tones, sym := sym }

/-- The same with a run accepted. -/
def checking (srate tsym basef bt nsym tones : Word) (sym : Memory) : State :=
  { args srate tsym basef bt nsym tones sym with state := .check }

/-- A state in which every register holds another value, so that no two can be mistaken for each other. -/
def marked : State :=
  { State.reset with
    sinksel := true, errcode := 0x0301#16, errinfo := 0x10001#32, ien := 5#3, ipend := 6#3, srate := 0x80000011#32,
    tsym := 0x80000012#32, basef := 0x80000013#32, bt := 0x80000014#32, nsym := 0x80000015#32, tones := 0x80000016#32,
    nsps := 0xF017#16, ntot := 0x80000018#32, fcw0 := 0x80000019#32, ncnt := 0x8000001A#32, kidx := 0x11B#9,
    jidx := 0xF01C#16, phase := 0x8000001D#32, out := 0x8000001E#32, sym := [(7, 0x77#8), (255, 0xEE#8)] }

/-- Program P1 of V7 (trace A of V5) before its `START`. -/
def p1 : State := args 8#32 500000#32 1000#32 0x200#32 2#32 8#32 [(1, 1#8)]

/-- P1 after `CHECK`. -/
def p1Run : State := after .check { p1 with state := .check }

/-- Row 3 of trace A, before its step. -/
def p1Row3 : State := { p1Run with ncnt := 3#32, jidx := 3#16, phase := 0x60000000#32 }

/-- P1 with its last sample held. -/
def p1Last : State := after .emit { p1Run with ncnt := 7#32, kidx := 1#9, jidx := 3#16, phase := 0x80000000#32 }

/-- A run of one symbol of one sample (V2 row 5), accepted; then running, with its sample held, and drained. -/
def oneCheck : State := checking 1#32 1000000#32 0#32 0x200#32 1#32 8#32 []
def oneRun : State := after .check oneCheck
def oneHeld : State := after .emit oneRun
def oneTaken : State := after .pop oneHeld

/-- A block in `FAULT` (V2 row 1). -/
def faulted : State := after .check { State.reset with state := .check }

/-! ## Well-formed terms -/

/-- The three fallback rows outside the space they stand for are refused; inside it they are well formed. -/
theorem test_wf_refuses_rdRsvd : (Instr.rdRsvd 0x000#10).wf = false ∧ (Instr.rdRsvd 0x100#10).wf = false ∧
    (Instr.rdRsvd 0x00A#10).wf = true ∧ (Instr.rdRsvd 0x021#10).wf = false ∧ (Instr.rdRsvd 0x022#10).wf = true := by decide
theorem test_wf_refuses_wrRsvd : (Instr.wrRsvd 0x005#10 1#32).wf = false ∧ (Instr.wrRsvd 0x1FF#10 1#32).wf = false ∧
    (Instr.wrRsvd 0x3FF#10 1#32).wf = true ∧ (Instr.wrRsvd 0x01E#10 1#32).wf = false ∧
    (Instr.wrRsvd 0x01F#10 1#32).wf = true := by decide
theorem test_wf_refuses_cmdRsvd : (Instr.cmdRsvd 0x01000000#32).wf = false ∧ (Instr.cmdRsvd 0x00000000#32).wf = false ∧
    (Instr.cmdRsvd 0x04000000#32).wf = false ∧ (Instr.cmdRsvd 0x01000001#32).wf = true ∧
    (Instr.cmdRsvd 0x05000000#32).wf = true := by decide

/-! ## Decoding: every encoded row, its word written out -/

/-- The command rows of the table, by the words of R113 and R114. -/
def commandWords : List (TWord × Instr) :=
  [ (0x40400000000#43, .cmdNop), (0x40401000000#43, .cmdStart), (0x40402000000#43, .cmdAbort),
    (0x40403000000#43, .cmdClrerr), (0x40404000000#43, .cmdSreset), (0x40405000000#43, .cmdRsvd 0x05000000#32) ]

/-- The read rows of the table (`HT-R`, `HT-S` with `W` = 0): the address of R81 in [41:32]. -/
def readWordsA : List (TWord × Instr) :=
  [ (0x00000000000#43, .rdId), (0x00100000000#43, .rdVersion), (0x00200000000#43, .rdCap),
    (0x00300000000#43, .rdCtrl), (0x00400000000#43, .rdCmd), (0x00500000000#43, .rdStatus),
    (0x00600000000#43, .rdErrcode), (0x00700000000#43, .rdErrinfo), (0x00800000000#43, .rdIen),
    (0x00900000000#43, .rdIpend), (0x01000000000#43, .rdSrate), (0x01100000000#43, .rdTsym),
    (0x01200000000#43, .rdBasef), (0x01300000000#43, .rdBt) ]

/-- The read rows, continued. -/
def readWordsB : List (TWord × Instr) :=
  [ (0x01400000000#43, .rdNsym), (0x01500000000#43, .rdTones), (0x01800000000#43, .rdNsps),
    (0x01900000000#43, .rdNtot), (0x01A00000000#43, .rdFcw0), (0x01B00000000#43, .rdNcnt),
    (0x01C00000000#43, .rdKidx), (0x01D00000000#43, .rdJidx), (0x01E00000000#43, .rdPhase),
    (0x02000000000#43, .rdOutpeek), (0x02100000000#43, .rdOutpop), (0x10700000000#43, .rdSym 7#8),
    (0x01600000000#43, .rdRsvd 0x016#10) ]

/-- The write rows of the table (`HT-W`, `HT-S` with `W` = 1): bit 42 set, the operand in [31:0]. -/
def writeWordsA : List (TWord × Instr) :=
  [ (0x40080000041#43, .wrRoId 0x80000041#32), (0x40180000041#43, .wrRoVersion 0x80000041#32),
    (0x40280000041#43, .wrRoCap 0x80000041#32), (0x40380000041#43, .wrCtrl 0x80000041#32),
    (0x40580000041#43, .wrRoStatus 0x80000041#32), (0x40680000041#43, .wrRoErrcode 0x80000041#32),
    (0x40780000041#43, .wrRoErrinfo 0x80000041#32), (0x40880000041#43, .wrIen 0x80000041#32),
    (0x40980000041#43, .wrIpend 0x80000041#32), (0x41080000041#43, .wrSrate 0x80000041#32),
    (0x41180000041#43, .wrTsym 0x80000041#32), (0x41280000041#43, .wrBasef 0x80000041#32),
    (0x41380000041#43, .wrBt 0x80000041#32) ]

/-- The write rows, continued. -/
def writeWordsB : List (TWord × Instr) :=
  [ (0x41480000041#43, .wrNsym 0x80000041#32), (0x41580000041#43, .wrTones 0x80000041#32),
    (0x41880000041#43, .wrRoNsps 0x80000041#32), (0x41980000041#43, .wrRoNtot 0x80000041#32),
    (0x41A80000041#43, .wrRoFcw0 0x80000041#32), (0x41B80000041#43, .wrRoNcnt 0x80000041#32),
    (0x41C80000041#43, .wrRoKidx 0x80000041#32), (0x41D80000041#43, .wrRoJidx 0x80000041#32),
    (0x41E80000041#43, .wrRoPhase 0x80000041#32), (0x42080000041#43, .wrRoOutpeek 0x80000041#32),
    (0x42180000041#43, .wrRoOutpop 0x80000041#32), (0x50AFFFFFFFF#43, .wrSym 10#8 0xFFFFFFFF#32),
    (0x7FF12345678#43, .wrRsvd 0x3FF#10 0x12345678#32) ]
theorem test_decode_commands : commandWords.all (fun p => decodeWord p.1 == p.2) = true := by decide
theorem test_decode_reads : (readWordsA ++ readWordsB).all (fun p => decodeWord p.1 == p.2) = true := by decide
theorem test_decode_writes : (writeWordsA ++ writeWordsB).all (fun p => decodeWord p.1 == p.2) = true := by decide

/-- R113, written bit by bit: `W` = 1, `ADDR` = 0x004, opcode 0x01, operand 0. -/
theorem test_decode_start_bits :
    decodeWord 0b1_0000000100_00000001_000000000000000000000000#43 = .cmdStart := by decide

/-- R112: `W` = 1, `ADDR[9:8]` = 01, index 5, value 7. -/
theorem test_decode_symbol_bits :
    decodeWord 0b1_01_00000101_00000000000000000000000000000111#43 = .wrSym 5#8 7#32 := by decide

/-- Reserved encodings do not fall through to a neighbour (R114, R182, V6). -/
theorem test_decode_reserved :
    decodeWord 0x40404FFFFFF#43 = .cmdRsvd 0x04FFFFFF#32 ∧ decodeWord 0x404FF000000#43 = .cmdRsvd 0xFF000000#32 ∧
    decodeWord 0x01F00000000#43 = .rdRsvd 0x01F#10 ∧ decodeWord 0x0FF00000000#43 = .rdRsvd 0x0FF#10 ∧
    decodeWord 0x20000000000#43 = .rdRsvd 0x200#10 := by decide

/-- Bytes: six, the least significant first, the top five bits 0 (log entry 12). -/
theorem test_decode_bytes :
    decodeBytes [0x00#8, 0x00#8, 0x00#8, 0x01#8, 0x04#8, 0x04#8, 0xAA#8] = .ok (.cmdStart, [0xAA#8]) ∧
    decodeBytes [0#8, 0#8, 0#8, 0#8, 0#8, 0x08#8] = .error .above43Bits ∧
    decodeBytes [0#8, 0#8, 0#8, 0#8, 0#8] = .error .truncated := ⟨rfl, rfl, rfl⟩

/-! ## Host accesses -/

/-- Every read returns its own register (R142 to R173, R180, R182, R273). -/
theorem test_reads_return_their_register :
    [readBack .rdId marked, readBack .rdVersion marked, readBack .rdCap marked, readBack .rdCtrl marked,
      readBack .rdCmd marked, readBack .rdErrcode marked, readBack .rdErrinfo marked, readBack .rdIen marked,
      readBack .rdIpend marked, readBack .rdSrate marked, readBack .rdTsym marked, readBack .rdBasef marked,
      readBack .rdBt marked, readBack .rdNsym marked, readBack .rdTones marked, readBack .rdNsps marked,
      readBack .rdNtot marked, readBack .rdFcw0 marked, readBack .rdNcnt marked, readBack .rdKidx marked,
      readBack .rdJidx marked, readBack .rdPhase marked, readBack (.rdSym 7#8) marked, readBack (.rdSym 8#8) marked,
      readBack (.rdRsvd 0x3FF#10) marked, readBack .rdOutpeek marked] =
    [some 0x46534B53#32, some 0x00010000#32, some 0xFFFF8100#32, some 1#32, some 0#32, some 0x0301#32,
      some 0x10001#32, some 5#32, some 6#32, some 0x80000011#32, some 0x80000012#32, some 0x80000013#32,
      some 0x80000014#32, some 0x80000015#32, some 0x80000016#32, some 0xF017#32, some 0x80000018#32,
      some 0x80000019#32, some 0x8000001A#32, some 0x11B#32, some 0xF01C#32, some 0x8000001D#32, some 0x77#32,
      some 0#32, some 0#32, some 0x7FC00000#32] := by decide

/-- The words of `STATUS` that R148 lists. -/
theorem test_status_words :
    readBack .rdStatus State.reset = some 0x000#32 ∧
    readBack .rdStatus { State.reset with state := .check } = some 0x011#32 ∧
    readBack .rdStatus { State.reset with state := .run } = some 0x012#32 ∧
    readBack .rdStatus { State.reset with state := .run, outValid := true } = some 0x092#32 ∧
    readBack .rdStatus { State.reset with state := .run, outValid := true, outLast := true } = some 0x492#32 ∧
    readBack .rdStatus { State.reset with state := .fault, cmderr := true } = some 0x243#32 ∧
    readBack .rdStatus { State.reset with done := true, wrbusy := true } = some 0x120#32 := by decide

/-- Writes reach their own register (R146, R156 to R166; the operands of V6). -/
theorem test_writes_reach_their_register :
    after (.wrCtrl 0xFFFFFFFE#32) marked = { marked with sinksel := false } ∧
    after (.wrSrate 0xFFFFFFFF#32) marked = { marked with srate := 0xFFFFFFFF#32 } ∧
    after (.wrTsym 160000#32) marked = { marked with tsym := 0x00027100#32 } ∧
    after (.wrBasef 1000000#32) marked = { marked with basef := 0x000F4240#32 } ∧
    after (.wrBt 0x12345678#32) marked = { marked with bt := 0x12345678#32 } ∧
    after (.wrNsym 79#32) marked = { marked with nsym := 0x0000004F#32 } ∧
    after (.wrTones 8#32) marked = { marked with tones := 8#32 } ∧
    after (.wrIen 0xFFFFFFFF#32) marked = { marked with ien := 7#3 } := by decide

/-- While busy the same writes are discarded and flagged (R141), `IEN` and `IPEND` excepted. -/
theorem test_writes_while_busy :
    [Instr.wrCtrl 0#32, .wrSrate 1#32, .wrTsym 1#32, .wrBasef 1#32, .wrBt 1#32, .wrNsym 1#32, .wrTones 1#32,
      .wrSym 255#8 1#32].all (fun i =>
        after i { marked with state := .run } == { marked with state := .run, wrbusy := true, ipend := 6#3 }) = true ∧
    after (.wrIpend 0x4#32) { marked with state := .run } = { marked with state := .run, ipend := 2#3 } ∧
    after (.wrIen 0xF8#32) { marked with state := .check } = { marked with state := .check, ien := 0#3 } := by decide

/-- R153: with `IPEND` = 5, a write of 1 leaves 4. -/
theorem test_ipend_write_one_to_clear :
    (after (.wrIpend 0x1#32) { marked with ipend := 5#3 }).ipend = 4#3 := by decide

/-- R181 and V6: 255, 256 and `0x80000000` all store 255; 7 stores 7; the canonical form drops a written 0. -/
theorem test_symbol_writes :
    (after (.wrSym 9#8 256#32) marked).sym = [(7, 0x77#8), (9, 0xFF#8), (255, 0xEE#8)] ∧
    (after (.wrSym 7#8 0x80000000#32) marked).sym = [(7, 0xFF#8), (255, 0xEE#8)] ∧
    (after (.wrSym 0#8 7#32) marked).sym = [(0, 7#8), (7, 0x77#8), (255, 0xEE#8)] ∧
    (after (.wrSym 255#8 0#32) marked).sym = [(7, 0x77#8)] := by decide

/-- R179, R183: read-only and reserved writes change nothing, also in `FAULT` and while busy. -/
theorem test_ignored_writes :
    [Instr.wrRoId 0#32, .wrRoVersion 0#32, .wrRoCap 0#32, .wrRoStatus 0xFFFFFFFF#32, .wrRoErrcode 0#32, .wrRoErrinfo 0#32,
      .wrRoNsps 77#32, .wrRoNtot 1#32, .wrRoFcw0 1#32, .wrRoNcnt 1#32, .wrRoKidx 1#32, .wrRoJidx 1#32,
      .wrRoPhase 0x1234#32, .wrRoOutpeek 1#32, .wrRoOutpop 1#32, .wrRsvd 0x00A#10 0xFFFFFFFF#32].all (fun i =>
        after i { marked with state := .run, outValid := true } == { marked with state := .run, outValid := true } &&
        after i { marked with state := .fault } == { marked with state := .fault }) = true := by decide

/-! ## Commands -/

/-- R191, R192: `NOP` does nothing; `START` in `IDLE` and in `FAULT`. -/
theorem test_nop_and_start :
    after .cmdNop { marked with state := .run } = { marked with state := .run } ∧
    after .cmdStart { marked with done := true } = { marked with state := .check } ∧
    after .cmdStart faulted = { faulted with cmderr := true, ipend := 6#3 } := by decide

/-- R193: an aborted run keeps its counters; in `FAULT` nothing happens. -/
theorem test_abort :
    after .cmdAbort { marked with state := .run, outValid := true, outLast := true } = { marked with out := 0#32 } ∧
    after .cmdAbort faulted = faulted := by decide

/-- R194: the return from the fault clears the record and no pending bit. -/
theorem test_clrerr :
    after .cmdClrerr { faulted with wrbusy := true, cmderr := true } = { State.reset with ipend := 2#3 } ∧
    (after .cmdClrerr { marked with state := .run, wrbusy := true }) = { marked with state := .run } := by decide

/-- R195: `SRESET` clears all but `SYM`. -/
theorem test_sreset : after .cmdSreset { marked with state := .run } = { State.reset with sym := marked.sym } := by decide

/-- R196: a reserved command is flagged and does nothing. -/
theorem test_reserved_command :
    after (.cmdRsvd 0x01000001#32) State.reset = { State.reset with cmderr := true, ipend := 4#3 } := by decide

/-! ## CHECK -/

/-- State, fault record and derived registers after `CHECK`. -/
def checked (s : State) : RunState × BitVec 16 × Word × Nat × Nat × Word :=
  let t := after .check s
  (t.state, t.errcode, t.errinfo, t.nsps.toNat, t.ntot.toNat, t.fcw0)

/-- V2 rows 2, 4, 10, 11, 13, 14, 18, 21, 25, 27: one failing row for each cause, and the first cause where several are
present. -/
theorem test_check_faults :
    [checking 0x80000000#32 160000#32 1000000#32 0x200#32 1#32 8#32 [],
      checking 1#32 999999#32 0#32 0x200#32 1#32 8#32 [], checking 0x10000#32 1000000#32 0#32 0x200#32 1#32 8#32 [],
      checking 0x7FFFFFFF#32 4294967295#32 0#32 0x200#32 1#32 8#32 [],
      checking 12000#32 160000#32 1000000#32 0x0#32 1#32 8#32 [],
      checking 12000#32 160000#32 1000000#32 0x10000#32 1#32 8#32 [],
      checking 12000#32 160000#32 1000000#32 0x200#32 257#32 8#32 [],
      checking 12000#32 160000#32 1000000#32 0x200#32 1#32 9#32 [],
      checking 12000#32 160000#32 1000000#32 0x200#32 5#32 2#32 [(1, 1#8), (2, 2#8), (4, 7#8)],
      checking 70000#32 1000000#32 0#32 0#32 0#32 0#32 []].map checked =
    [(.fault, 0x0101#16, 0#32, 0, 0, 0#32), (.fault, 0x0201#16, 0#32, 0, 0, 0#32),
      (.fault, 0x0301#16, 0x10000#32, 0, 0, 0#32), (.fault, 0x0301#16, 0xFFFFFFFF#32, 0, 0, 0#32),
      (.fault, 0x0401#16, 0#32, 0, 0, 0#32), (.fault, 0x0401#16, 0#32, 0, 0, 0#32), (.fault, 0x0501#16, 0#32, 0, 0, 0#32),
      (.fault, 0x0601#16, 0#32, 0, 0, 0#32), (.fault, 0x0701#16, 2#32, 0, 0, 0#32),
      (.fault, 0x0301#16, 0x11170#32, 0, 0, 0#32)] := by decide +kernel

/-- V2 rows 5, 9, 19, 24, 31, 36, 41: passing rows at the ends of the ranges. -/
theorem test_check_passes :
    [checking 1#32 1000000#32 0#32 0x200#32 1#32 8#32 [], checking 0xFFFF#32 1000000#32 0#32 0x200#32 1#32 8#32 [],
      checking 12000#32 160000#32 1000000#32 0x200#32 256#32 8#32 [],
      checking 12000#32 160000#32 1000000#32 0x200#32 2#32 4#32 [(1, 3#8), (2, 4#8)],
      checking 12000#32 160000#32 1000000#32 0x200#32 79#32 8#32 [],
      checking 12000#32 160000#32 4294967295#32 0x200#32 1#32 8#32 [],
      checking 0x7FFFFFFF#32 30#32 1000000#32 0x200#32 1#32 8#32 []].map checked =
    [(.run, 0#16, 0#32, 1, 1, 0#32), (.run, 0#16, 0#32, 65535, 65535, 0#32), (.run, 0#16, 0#32, 1920, 491520, 0x15555555#32),
      (.run, 0#16, 0#32, 1920, 3840, 0x15555555#32), (.run, 0#16, 0#32, 1920, 151680, 0x15555555#32),
      (.run, 0#16, 0#32, 1920, 1920, 0xE9F80DC3#32), (.run, 0#16, 0#32, 64424, 64424, 0x000007D0#32)] := by decide +kernel

/-! ## PULSEQ, SINF, EMIT, FINISH, POP, OUTPOP -/

/-- V3: whole tables. -/
theorem test_pulse_tables :
    (List.range 3).map (pulseq 1 0x40) = [967, 15414, 15414] ∧ (List.range 3).map (pulseq 1 0x1) = [385, 385, 385] ∧
    (List.range 12).map (pulseq 4 0x200) = [0, 0, 0, 3, 16384, 32765, 32768, 32765, 16384, 3, 0, 0] ∧
    (List.range 12).map (pulseq 4 0x80) = [3, 76, 970, 5661, 16381, 27031, 30828, 27031, 16381, 5661, 970, 76] ∧
    (List.range 15).map (pulseq 5 0x200) =
      [0, 0, 0, 0, 42, 16384, 32726, 32768, 32768, 32726, 16384, 42, 0, 0, 0] := by decide +kernel

/-- V3: values of the table of program P4 and of the FT4-like table. -/
theorem test_pulse_long_tables :
    [1389, 1390, 1720, 1919, 1920, 1921, 2450, 2451, 2880, 3309, 3310, 4370, 4371].map (pulseq 1920 0x200) =
      [0, 1, 1899, 16281, 16384, 16487, 32767, 32768, 32768, 32768, 32767, 1, 0] ∧
    [257, 258, 376, 575, 576, 577, 864, 1470, 1471].map (pulseq 576 0x100) =
      [0, 1, 144, 16213, 16384, 16555, 32763, 1, 0] := by decide +kernel

/-- V4: values near the zero crossings, at the turning points and between. -/
theorem test_sine_values :
    [0x00000003#32, 0x01000000#32, 0x12345678#32, 0x15555555#32, 0x2AAAAAAB#32, 0x3FF00000#32, 0x3FFF0000#32, 0x40010000#32,
      0x7FFE0000#32, 0x7FFFFFFF#32, 0x80000001#32, 0x95555555#32, 0xC0018000#32, 0xFFFE0000#32, 0xFFFFFFFF#32].map sinf =
    [0x3196CBE4#32, 0x3CC90AB0#32, 0x3EDD3A58#32, 0x3F000000#32, 0x3F5DB3D7#32, 0x3F7FFFEC#32, 0x3F800000#32, 0x3F800000#32,
      0x39490FDB#32, 0x30C90FDB#32, 0xB0C90FDB#32, 0xBF000000#32, 0xBF800000#32, 0xB9490FDB#32, 0xB0C90FDB#32] := by
  decide +kernel

/-- R245's example, row 3 of trace A: the sample ends its symbol. -/
theorem test_emit_row3 : after .emit p1Row3 = { p1Row3 with
    out := 0x3F3504F3#32, outValid := true, phase := 0x80018000#32, kidx := 1#9, jidx := 0#16, ncnt := 4#32 } := by
  decide +kernel

/-- Trace D row 4 (the edges of the sequence and cut tails) and trace A row 7 (the last flag). -/
theorem test_emit_edges :
    (let t := after .emit { after .check (checking 8#32 500000#32 1000#32 0x40#32 2#32 2#32 [(0, 1#8)]) with
        ncnt := 4#32, kidx := 1#9, phase := 0x56F90000#32 };
      (t.out, t.phase, t.outLast)) = (0x3F585FD7#32, 0x95140000#32, false) ∧
    (p1Last.out, p1Last.phase, p1Last.outLast, p1Last.kidx, p1Last.jidx) =
      (0x00000000#32, 0xE0000000#32, true, 2#9, 0#16) := by decide +kernel

/-- R246: the end of a run. -/
theorem test_finish : after .finish { p1Last with outValid := false } =
    { p1Last with outValid := false, state := .idle, done := true, ipend := 1#3 } := by decide +kernel

/-- R271's example. -/
theorem test_pop :
    (after .pop { p1Row3 with out := 0x3F3504F3#32, outValid := true }).delivered = [.beat 0x3F3504F3#32 false] ∧
    (after .pop { p1Row3 with out := 0x3F3504F3#32, outValid := true }).outValid = false := by decide +kernel

/-- R274's example: a second `OUTPOP` read finds nothing; with `SINKSEL` = 0 it never takes. -/
theorem test_outpop :
    (let t := after .rdOutpop { marked with out := 0x3F800000#32, outValid := true };
      (t.rdata, t.outValid, readBack .rdOutpop t)) = (some 0x3F800000#32, false, some 0x7FC00000#32) ∧
    (after .rdOutpop { marked with sinksel := false, outValid := true }).outValid = true := by decide

/-! ## Steps -/

/-- A word placed by `withFetchWord` is the next step's operation, from reset. -/
theorem test_fetch_from_reset :
    nextOf (step (State.reset.withFetchWord 48 0x41000002EE0)) = some { State.reset with srate := 12000#32 } ∧
    decodeTableWord 48 0x41000002EE0 = some (.wrSrate 12000#32) ∧ decodeTableWord 48 0x80000000000 = none := by decide

/-- A bridge access of four lanes in ascending address order is one word (R83); a byte access is refused (R84). -/
theorem test_bridge :
    nextOf (step { State.reset with inputs := [.bus
      { write := true, offset := 0x40, width := 4, lanes := [0xE0#8, 0x2E#8, 0#8, 0#8] }] }) =
        some { State.reset with srate := 12000#32 } ∧
    nextOf (step { State.reset with inputs := [.bus { write := false, offset := 0x41, width := 1, lanes := [] }] }) = none ∧
    nextOf (step { State.reset with inputs := [.bus { write := false, offset := 4096, width := 4, lanes := [] }] }) = none := by
  decide

/-! ## Witnesses: for each statement with hypotheses, states and operands that meet them -/

theorem inv_of_running {s : State} (hs : s.state = .run) (hm : s.sym.wf) (he : s.errcode = 0#16 ∧ s.errinfo = 0#32 ∧
      s.done = false ∧ (s.outValid = true → s.outLast = true → s.ncnt = s.ntot))
    (hl : 0 < s32 s.srate ∧ 1 ≤ samplesPerSymbol s.srate s.tsym ∧ samplesPerSymbol s.srate s.tsym ≤ 65535 ∧
      1 ≤ s.bt.toNat ∧ s.bt.toNat ≤ 0xFFFF ∧ 1 ≤ s.nsym.toNat ∧ s.nsym.toNat ≤ 256 ∧ 1 ≤ s.tones.toNat ∧
      s.tones.toNat ≤ 8 ∧ ∀ i, i < s.nsym.toNat → (s.sym.read i).toNat < s.tones.toNat)
    (hr : s.nsps.toNat = samplesPerSymbol s.srate s.tsym ∧ s.ntot.toNat = s.nsym.toNat * s.nsps.toNat ∧
      s.fcw0 = baseIncrement s.basef s.srate ∧ s.ncnt.toNat = s.kidx.toNat * s.nsps.toNat + s.jidx.toNat ∧
      s.jidx.toNat < s.nsps.toNat ∧ s.ncnt.toNat ≤ s.ntot.toNat ∧ s.kidx.toNat ≤ s.nsym.toNat) : Inv s := by
  obtain ⟨h1, h2, h3, h4⟩ := he
  obtain ⟨l1, l2, l3, l4, l5, l6, l7, l8, l9, l10⟩ := hl
  obtain ⟨r1, r2, r3, r4, r5, r6, r7⟩ := hr
  exact ⟨hm, fun _ => hs, fun _ => ⟨⟨l1, l2, l3, l4, l5, l6, l7, l8, l9, l10⟩, r1, r2, r3, r4, r5, r6, r7⟩,
    by simp [hs, h1], by simp [hs], fun _ => h2, h4, by simp [h3]⟩

theorem inv_of_quiet {s : State} (hs : s.state = .idle ∨ s.state = .check) (hm : s.sym.wf)
    (he : s.errcode = 0#16 ∧ s.errinfo = 0#32 ∧ s.done = false ∧ s.outValid = false) : Inv s := by
  obtain ⟨h1, h2, h3, h4⟩ := he
  exact ⟨hm, by simp [h4], by rcases hs with hs | hs <;> simp [hs], by rcases hs with hs | hs <;> simp [hs, h1],
    by rcases hs with hs | hs <;> simp [hs], fun _ => h2, by simp [h4], by simp [h3]⟩

theorem inv_oneHeld : Inv oneHeld :=
  inv_of_running (by decide +kernel) (by decide +kernel) (by decide +kernel) (by decide +kernel) (by decide +kernel)
theorem inv_oneTaken : Inv oneTaken :=
  inv_of_running (by decide +kernel) (by decide +kernel) (by decide +kernel) (by decide +kernel) (by decide +kernel)
theorem inv_p1Run : Inv p1Run :=
  inv_of_running (by decide +kernel) (by decide +kernel) (by decide +kernel) (by decide +kernel) (by decide +kernel)
theorem waveInv_oneHeld : WaveInv oneHeld := ⟨by decide +kernel, by decide +kernel, by decide +kernel, by decide +kernel⟩
theorem waveInv_oneTaken : WaveInv oneTaken := ⟨by decide +kernel, by decide +kernel, by decide +kernel, by decide +kernel⟩
theorem waveInv_p1Run : WaveInv p1Run := ⟨by decide +kernel, by decide +kernel, by decide +kernel, by decide +kernel⟩

theorem witness_DecodeOfEncodeIsIdentity :
    (Instr.wrSym 255#8 0xFFFFFFFF#32).wf = true ∧ encode (.wrSym 255#8 0xFFFFFFFF#32) = some 0x5FFFFFFFFFF#43 ∧
    (Instr.cmdRsvd 0x00000001#32).wf = true ∧ encode (.cmdRsvd 0x00000001#32) = some 0x40400000001#43 ∧
    (Instr.rdRsvd 0x200#10).wf = true ∧ encode (.rdRsvd 0x200#10) = some 0x20000000000#43 := by decide

theorem witness_StepPerformsTheTransaction :
    (State.reset.withFetchWord 48 0x40401000000).inputs = .host 0x40401000000#43 :: [] ∧ Instr.cmdStart.wf = true ∧
    encode .cmdStart = some 0x40401000000#43 ∧ 0x40401000000 < 2 ^ 43 := by decide

theorem witness_TurnsOfEngineAndSink :
    ({ oneCheck with inputs := [.sink] }).inputs = .sink :: [] ∧ engineSelect { oneCheck with inputs := [.engine] } = some .check ∧
    engineSelect { State.reset with inputs := [.engine] } = none ∧ oneCheck.inputs = [] ∧ engineSelect oneRun = some .emit ∧
    engineSelect oneTaken = some .finish ∧ oneTaken.inputs = [] ∧ engineSelect oneHeld = none ∧ oneHeld.inputs = [] := by
  decide +kernel

theorem witness_EngineSelectionIsByState :
    engineSelect oneCheck = some .check ∧ engineSelect oneRun = some .emit ∧ engineSelect oneTaken = some .finish ∧
    popEnabled oneHeld = true := by decide +kernel

theorem witness_BridgeAcceptsAlignedWordsOnly :
    ({ State.reset with inputs := [.bus { write := false, offset := 2, width := 4, lanes := [] }] }).inputs =
      .bus { write := false, offset := 2, width := 4, lanes := [] } :: [] ∧ 2 % 4 ≠ 0 ∧ (2 : Nat) ≠ 4 := by decide
/-- The clauses at the end of the block (offsets 4092 and 4096) and at three and five lanes. -/
theorem witness_BridgeAcceptsAlignedWordsOnly_refused :
    4096 ≤ 4096 ∧ 4096 % 4 = 0 ∧ ([0#8, 0#8, 0#8] : List Byte).length ≠ 4 ∧
    ([0#8, 0#8, 0#8, 0#8, 0#8] : List Byte).length ≠ 4 ∧ ([0#8, 0#8, 0#8, 0#8] : List Byte).length = 4 ∧
    ({ State.reset with inputs := [.bus { write := false, offset := 4096, width := 4, lanes := [] }] }).inputs =
      .bus { write := false, offset := 4096, width := 4, lanes := [] } :: [] := by decide
theorem witness_BridgeAcceptsAlignedWordsOnly_accepted :
    busWord { write := true, offset := 4092, width := 4, lanes := [1#8, 0#8, 0#8, 0#8] } = .ok 0x7FF00000001#43 ∧
    busWord { write := false, offset := 0x14, width := 4, lanes := [] } = .ok 0x00500000000#43 := ⟨rfl, rfl⟩

theorem witness_EveryTransactionCompletes : tW 0x00500000000#43 = 0#1 ∧ tW 0x40401000000#43 = 1#1 := by decide

theorem witness_SymbolAndReservedReads : reservedAddr 0x00A#10 = true ∧ reservedAddr 0x0FF#10 = true ∧
    reservedAddr 0x200#10 = true ∧ reservedAddr 0x3FF#10 = true := by decide

theorem witness_OutpopTakesInHostMode :
    ({ marked with outValid := true }).sinksel = true ∧ ({ marked with outValid := true }).outValid = true ∧
    oneHeld.sinksel = false ∧ oneHeld.outValid = true ∧ marked.sinksel = true ∧ marked.outValid = false := by decide +kernel

theorem witness_ReadsButOutpopAreIdempotent : (0x020#10 : Addr) ≠ 0x021#10 ∧ (0x022#10 : Addr) ≠ 0x021#10 := by decide

theorem witness_WritesStoreUnlessBusy : ∃ f : State, f = { marked with wrbusy := true, ipend := marked.ipend ||| 0b100#3 } ∧
    marked.state = .idle ∧ oneCheck.state = .check ∧ faulted.state = .fault := ⟨_, rfl, rfl, rfl, by decide +kernel⟩

theorem witness_BusyProtectedWritesAreDiscarded : oneCheck.state = .check ∧ p1Run.state = .run ∧
    [0x003#10, 0x010#10, 0x015#10, 0x100#10, 0x1FF#10].all (fun a : Addr =>
      decide (a = 0x003#10 ∨ (0x010 ≤ a.toNat ∧ a.toNat ≤ 0x015) ∨ (0x100 ≤ a.toNat ∧ a.toNat ≤ 0x1FF))) = true := by
  decide +kernel

theorem witness_SymbolWriteSaturates : marked.sym.wf ∧ marked.state = .idle ∧ p1Run.sym.wf ∧ p1Run.state = .run ∧
    faulted.sym.wf ∧ faulted.state = .fault ∧ oneCheck.sym.wf ∧ oneCheck.state = .check := by decide +kernel

theorem witness_ReadOnlyAndReservedWritesAreInert :
    0x021 ∈ [0x000, 0x001, 0x002, 0x005, 0x006, 0x007, 0x018, 0x019, 0x01A, 0x01B, 0x01C, 0x01D, 0x01E, 0x020, 0x021] ∧
    reservedAddr 0x01F#10 = true ∧ reservedAddr 0x00F#10 = true := by decide

theorem witness_NopAndReservedCommands : 0x00000001 % 2 ^ 24 ≠ 0 ∧ 0x05 ≤ 0x05000000 / 2 ^ 24 ∧
    0x05 ≤ 0xFF000000 / 2 ^ 24 := by decide

theorem witness_StartIsAcceptedOnlyInIdle : p1.state = .idle ∧ faulted.state ≠ .idle ∧ p1Run.state ≠ .idle ∧
    oneCheck.state ≠ .idle := by decide +kernel

theorem witness_AbortEndsTheRun : oneCheck.state = .check ∧ oneHeld.state = .run ∧ p1.state = .idle ∧
    faulted.state = .fault := by decide +kernel

theorem witness_ClrerrReturnsFromTheFault : faulted.state = .fault ∧ p1Run.state ≠ .fault := by decide +kernel

theorem witness_HardwareResetFromAnyState :
    ({ oneHeld with inputs := .reset ((List.range 256).map fun i => (i, BitVec.ofNat 8 i)) :: [] }).inputs =
      .reset ((List.range 256).map fun i => (i, BitVec.ofNat 8 i)) :: [] := rfl

/-- At both ends of the ranges: V2 row 5 with one tone, and 256 symbols of 65535 samples with `BT` = `0xFFFF`. -/
theorem witness_CheckStartsALegalRun :
    [checking 1#32 1000000#32 0#32 1#32 1#32 1#32 [], checking 0xFFFF#32 1000000#32 0#32 0xFFFF#32 256#32 8#32 [(255, 7#8)]].all
      (fun s => decide (s.state = .check ∧ 0 < s.srate.toInt ∧ 1 ≤ s.srate.toInt * s.tsym.toNat / 1000000 ∧
        s.srate.toInt * s.tsym.toNat / 1000000 ≤ 65535 ∧ 1 ≤ s.bt.toNat ∧ s.bt.toNat ≤ 0xFFFF ∧ 1 ≤ s.nsym.toNat ∧
        s.nsym.toNat ≤ 256 ∧ 1 ≤ s.tones.toNat ∧ s.tones.toNat ≤ 8 ∧
        ∀ i, i < s.nsym.toNat → (s.sym.read i).toNat < s.tones.toNat)) = true := by decide +kernel

/-- One state for each clause, at the boundary of its range (V2 rows 2, 4, 10, 13, 14, 17, 18, 20, 21, 24). -/
theorem witness_CheckRaisesTheFirstFailingCause :
    (0x80000000#32 : Word).toInt ≤ 0 ∧ (0#32 : Word).toInt ≤ 0 ∧
    (0 < (1#32 : Word).toInt ∧ (1#32 : Word).toInt * (999999#32 : Word).toNat / 1000000 < 1) ∧
    (0 < (0x10000#32 : Word).toInt ∧ 65535 < (0x10000#32 : Word).toInt * (1000000#32 : Word).toNat / 1000000) ∧
    [checking 12000#32 160000#32 0#32 0x0#32 1#32 8#32 [], checking 12000#32 160000#32 0#32 0x10000#32 1#32 8#32 []].all (fun s =>
      decide (1 ≤ s.srate.toInt * s.tsym.toNat / 1000000 ∧ s.srate.toInt * s.tsym.toNat / 1000000 ≤ 65535 ∧
        (s.bt.toNat = 0 ∨ 0xFFFF < s.bt.toNat))) = true ∧
    [checking 12000#32 160000#32 0#32 1#32 0#32 8#32 [], checking 12000#32 160000#32 0#32 0xFFFF#32 257#32 8#32 []].all (fun s =>
      decide (1 ≤ s.bt.toNat ∧ s.bt.toNat ≤ 0xFFFF ∧ (s.nsym.toNat = 0 ∨ 256 < s.nsym.toNat))) = true ∧
    [checking 12000#32 160000#32 0#32 1#32 1#32 0#32 [], checking 12000#32 160000#32 0#32 1#32 256#32 9#32 []].all (fun s =>
      decide (1 ≤ s.nsym.toNat ∧ s.nsym.toNat ≤ 256 ∧ (s.tones.toNat = 0 ∨ 8 < s.tones.toNat))) = true ∧
    [(checking 12000#32 160000#32 0#32 1#32 256#32 8#32 [(255, 8#8)], 255),
      (checking 12000#32 160000#32 0#32 1#32 2#32 1#32 [(0, 1#8), (1, 3#8)], 0)].all (fun (s, i) =>
      decide (1 ≤ s.tones.toNat ∧ s.tones.toNat ≤ 8 ∧ i < s.nsym.toNat ∧ s.tones.toNat ≤ (s.sym.read i).toNat ∧
        ∀ j, j < i → (s.sym.read j).toNat < s.tones.toNat)) = true := by decide +kernel

theorem witness_OnlyCheckRaises : exec .check { State.reset with state := .check } = .next faulted ∧
    ({ State.reset with state := .check }).state ≠ .fault ∧ faulted.state = .fault :=
  ⟨runs (by decide), by decide, by decide⟩

/-- The same arguments, once after reset and once after an earlier run with another phase and count, `TONES` alike. -/
theorem witness_CheckForgetsEarlierRuns :
    oneCheck.args = ({ oneCheck with ncnt := 9#32, phase := 5#32, nsps := 7#16 }).args ∧
    oneCheck.tones = ({ oneCheck with ncnt := 9#32, phase := 5#32, nsps := 7#16 }).tones ∧
    exec .check oneCheck = .next oneRun ∧ exec .check { oneCheck with ncnt := 9#32, phase := 5#32, nsps := 7#16 } =
      .next (after .check { oneCheck with ncnt := 9#32, phase := 5#32, nsps := 7#16 }) :=
  ⟨rfl, rfl, runs (by decide +kernel), runs (by decide +kernel)⟩

/-- The first sample of P1, row 3 of trace A (the end of a symbol) and a run of one sample. -/
theorem witness_EmitProducesOneSample : [p1Run, p1Row3, oneRun].all (fun s =>
    decide (s.state = .run ∧ s.outValid = false ∧ s.ncnt.toNat < s.ntot.toNat ∧ s.kidx.toNat < s.nsym.toNat ∧
      s.nsym.toNat ≤ 256 ∧ s.jidx.toNat < s.nsps.toNat ∧ 1 ≤ s.bt.toNat ∧ s.bt.toNat ≤ 0xFFFF)) = true := by decide +kernel

theorem witness_FinishEndsTheRun : oneTaken.state = .run ∧ oneTaken.outValid = false ∧ oneTaken.ncnt = oneTaken.ntot := by
  decide +kernel

theorem witness_PopDeliversTheHeldSample : oneHeld.outValid = true ∧ oneHeld.sinksel = false := by decide +kernel

theorem witness_DisabledOperationsHaveNoStep : p1.state ≠ .check ∧ oneHeld.outValid = true ∧
    oneTaken.ntot.toNat ≤ oneTaken.ncnt.toNat ∧ oneRun.ncnt ≠ oneRun.ntot ∧ oneRun.outValid = false ∧
    ({ oneHeld with sinksel := true }).sinksel = true := by decide +kernel

theorem witness_StateTransitionsAreThoseListed :
    exec .cmdStart p1 = .next (after .cmdStart p1) ∧ (after .cmdStart p1).state ≠ p1.state ∧
    exec .check oneCheck = .next oneRun ∧ oneRun.state ≠ oneCheck.state ∧ ({ State.reset with inputs := [.reset []] }).inputs =
      .reset [] :: [] ∧ step { State.reset with inputs := [.reset []] } =
      .next (State.hardReset [] { State.reset with inputs := [] }) :=
  ⟨rfl, by decide, runs (by decide +kernel), by decide +kernel, rfl, rfl⟩

theorem witness_DoneChangesOnlyAtRunEnds :
    exec .finish oneTaken = .next (after .finish oneTaken) ∧ oneTaken.done = false ∧ (after .finish oneTaken).done = true ∧
    exec .cmdStart { p1 with done := true } = .next (after .cmdStart { p1 with done := true }) ∧ p1.state = .idle :=
  ⟨runs (by decide +kernel), by decide +kernel, by decide +kernel, rfl, rfl⟩

theorem witness_HazardFlagsAreSticky :
    exec .cmdClrerr { faulted with wrbusy := true } = .next (after .cmdClrerr { faulted with wrbusy := true }) ∧
    (after .cmdClrerr { faulted with wrbusy := true }).wrbusy = false ∧
    exec (.wrCtrl 0#32) p1Run = .next (after (.wrCtrl 0#32) p1Run) ∧ p1Run.wrbusy = false ∧
    (after (.wrCtrl 0#32) p1Run).wrbusy = true ∧ exec .cmdStart p1Run = .next (after .cmdStart p1Run) ∧
    p1Run.cmderr = false ∧ (after .cmdStart p1Run).cmderr = true :=
  ⟨runs (by decide +kernel), by decide +kernel, runs (by decide +kernel), by decide +kernel, by decide +kernel,
    runs (by decide +kernel), by decide +kernel, by decide +kernel⟩

theorem witness_PendingBitsFollowTheirSources :
    exec .check { State.reset with state := .check } = .next faulted ∧ faulted.ipend.getLsbD 1 = true ∧
    exec (.wrIpend 2#32) faulted = .next (after (.wrIpend 2#32) faulted) ∧
    (after (.wrIpend 2#32) faulted).ipend.getLsbD 1 = false ∧ exec .finish oneTaken = .next (after .finish oneTaken) ∧
    (after .finish oneTaken).ipend.getLsbD 0 = true :=
  ⟨runs (by decide), by decide, runs (by decide), by decide, runs (by decide +kernel), by decide +kernel⟩

/-- The three sources of `HAZ_IP`, each raising it. -/
theorem witness_PendingBitsFollowTheirSources_hazard :
    Hazard (.wrSym 255#8 1#32) oneCheck ∧ exec (.wrSym 255#8 1#32) oneCheck = .next (after (.wrSym 255#8 1#32) oneCheck) ∧
    oneCheck.ipend.getLsbD 2 = false ∧ (after (.wrSym 255#8 1#32) oneCheck).ipend.getLsbD 2 = true ∧
    Hazard (.cmdRsvd 0x05000000#32) p1 ∧
    exec (.cmdRsvd 0x05000000#32) p1 = .next (after (.cmdRsvd 0x05000000#32) p1) ∧
    p1.ipend.getLsbD 2 = false ∧ (after (.cmdRsvd 0x05000000#32) p1).ipend.getLsbD 2 = true ∧
    Hazard .cmdStart faulted ∧ exec .cmdStart faulted = .next (after .cmdStart faulted) ∧
    faulted.ipend.getLsbD 2 = false ∧ (after .cmdStart faulted).ipend.getLsbD 2 = true :=
  ⟨.inl ⟨.inl rfl, by decide⟩, runs (by decide), by decide, by decide, .inr (.inl rfl), runs (by decide), by decide,
    by decide, .inr (.inr ⟨rfl, by decide⟩), runs (by decide), by decide, by decide⟩

theorem witness_SequencerMovesOnlyByEngine :
    exec .cmdAbort oneHeld = .next (after .cmdAbort oneHeld) ∧ exec .check { State.reset with state := .check } = .next faulted ∧
    faulted.state = .fault ∧ exec .check oneCheck = .next oneRun ∧ oneRun.state = .run :=
  ⟨runs (by decide +kernel), runs (by decide), by decide, runs (by decide +kernel), by decide +kernel⟩

theorem witness_DerivedRegistersAndFaultRecordWriters :
    exec .emit oneRun = .next oneHeld ∧ exec .check oneCheck = .next oneRun ∧ oneRun.state = .run ∧
    exec .cmdClrerr p1 = .next (after .cmdClrerr p1) ∧ p1.state ≠ .fault :=
  ⟨runs (by decide +kernel), runs (by decide +kernel), by decide +kernel, runs (by decide), by decide⟩

theorem witness_ArgumentsAreFrozenWhileBusy : p1Run.state = .run ∧
    exec (.wrSym 1#8 0#32) p1Run = .next (after (.wrSym 1#8 0#32) p1Run) ∧ oneCheck.state = .check ∧
    exec .check oneCheck = .next oneRun :=
  ⟨by decide +kernel, runs (by decide +kernel), rfl, runs (by decide +kernel)⟩

theorem witness_ParametersChangeOnlyByTheirWrites : exec (.wrBt 1#32) p1 = .next (after (.wrBt 1#32) p1) ∧
    (after (.wrBt 1#32) p1).bt ≠ p1.bt ∧ (Instr.wrBt 1#32).mnemonic ≠ "WR.SRATE" := ⟨rfl, by decide, by decide⟩

theorem witness_OfferedBeatStaysUntilTaken : Inv oneHeld ∧ offeredBeat oneHeld = some (0x00000000#32, true) ∧
    exec .rdOutpop oneHeld = .next (after .rdOutpop oneHeld) :=
  ⟨inv_oneHeld, by decide +kernel, runs (by decide +kernel)⟩

theorem witness_SineSignAndSymmetries : 0 < (0x7FFFFFFF#32 : Word).toNat ∧ (0x7FFFFFFF#32 : Word).toNat < 2 ^ 31 ∧
    2 ^ 31 < (0x80000001#32 : Word).toNat ∧ (0x80000000#32 : Word).toNat ≤ 2 ^ 31 ∧ (1#32 : Word) ≠ 0#32 := by decide

theorem witness_PulseIsMirrored : 1 ≤ 1 ∧ 1 ≤ 2 ∧ 2 ≤ 3 * 1 - 1 := by decide

/-- The ends of the ranges: `BT` of `0x100`, 480 and `0xFFFF`, the first and the last sample of a symbol. -/
theorem witness_PulseHalfPoints : 1 ≤ 65535 ∧ 0x100 ≤ 0x100 ∧ 0x100 ≤ 0xFFFF ∧ 0xFFFF ≤ 0xFFFF ∧ 0 < 1 ∧ 65534 < 65535 ∧
    480 ≤ 480 ∧ 480 ≤ 0xFFFF := by decide

theorem witness_StepKeepsTheInvariant : Inv oneHeld ∧ step { oneHeld with inputs := [] } = .next oneHeld ∧ Inv p1Run ∧
    step p1Run = .next (afterStep p1Run) :=
  ⟨inv_oneHeld, rfl, inv_p1Run, steps (by decide +kernel)⟩

theorem witness_ReachableStatesMeetI1ToI5 : Reachable (State.hardReset [(3, 9#8)] { State.reset with inputs := [.engine] }) :=
  .start _ _

theorem witness_NoStepFaultsUnderTheInvariant : Inv p1Run ∧ Inv oneHeld ∧ Inv oneTaken :=
  ⟨inv_p1Run, inv_oneHeld, inv_oneTaken⟩

theorem witness_StepKeepsTheWaveform : Inv p1Run ∧ WaveInv p1Run ∧ step p1Run = .next (afterStep p1Run) :=
  ⟨inv_p1Run, waveInv_p1Run, steps (by decide +kernel)⟩

theorem witness_FinishMeansDelivered : Inv oneTaken ∧ WaveInv oneTaken ∧
    exec .finish oneTaken = .next (after .finish oneTaken) :=
  ⟨inv_oneTaken, waveInv_oneTaken, runs (by decide +kernel)⟩

/-- The events of P1, drained by the sink. -/
def p1Drained : State :=
  { p1 with state := .check, inputs := .engine :: (alternating .sink 8 ++ [.engine]) }

theorem witness_DrainedRunDeliversTheWaveform : Inv p1Drained ∧ WaveInv p1Drained ∧ p1Drained.state = .check ∧
    Legal p1Drained ∧ p1Drained.args.ntot = 8 ∧
    p1Drained.inputs = .engine :: (alternating p1Drained.takeTurn p1Drained.args.ntot ++ [.engine]) :=
  ⟨inv_of_quiet (.inr rfl) (by decide) (by decide), ⟨by decide, by decide, by decide, by decide⟩, rfl,
    ⟨by decide, by decide +kernel, by decide +kernel, by decide, by decide, by decide, by decide, by decide, by decide,
      by decide +kernel⟩, by decide +kernel, by decide +kernel⟩

/-- The same with the host as the taker. -/
theorem witness_DrainedRunDeliversTheWaveform_host :
    ({ p1Drained with sinksel := true, inputs := Event.engine :: (alternating (.host 0x02100000000#43) 8 ++ [Event.engine]) }).inputs =
      Event.engine :: (alternating ({ p1Drained with sinksel := true }).takeTurn ({ p1Drained with sinksel := true }).args.ntot
        ++ [Event.engine]) := by decide +kernel

end Sys2Proof.Tests
end

section
/-! Which step can end in a fault of the model: only an enabled `EMIT` outside its domain (43_engine_emit.md R231, R233;
log entry 8), and that domain holds wherever the invariant does (10_state.md R56 I2). -/

namespace Sys2Proof.Machine

/-! The shared operations and the engine and sink steps: which of them can fault. -/

theorem readReturns_ne_fault {v : Word} {s : State} {f : Fault} : readReturns v s ≠ .fault f := by
  simp [readReturns]

theorem busyProtected_ne_fault {s w : State} {f : Fault} : busyProtected s w ≠ .fault f := by
  unfold busyProtected
  split <;> simp

theorem execCmdStart_ne_fault {s : State} {f : Fault} : execCmdStart s ≠ .fault f := by
  unfold execCmdStart
  split <;> simp

theorem execRdOutpop_ne_fault {s : State} {f : Fault} : execRdOutpop s ≠ .fault f := by
  unfold execRdOutpop
  split <;> exact readReturns_ne_fault

theorem execCheck_ne_fault {s : State} {f : Fault} : execCheck s ≠ .fault f := by
  unfold execCheck
  split
  · split <;> simp
  · simp

theorem execFinish_ne_fault {s : State} {f : Fault} : execFinish s ≠ .fault f := by
  unfold execFinish
  split <;> simp

theorem execPop_ne_fault {s : State} {f : Fault} : execPop s ≠ .fault f := by
  unfold execPop
  split <;> simp

theorem execEmit_eq_fault {s : State} {f : Fault} (h : execEmit s = .fault f) :
    emitEnabled s = true ∧ emitDomain s = false := by
  unfold execEmit at h
  split_ifs at h with he hd
  exact ⟨he, by simpa using hd⟩

/-- The inversion of a fault of `exec`: `EMIT` alone raises one. -/
theorem exec_eq_fault {i : Instr} {s : State} {f : Fault} (h : exec i s = .fault f) :
    i = .emit ∧ emitEnabled s = true ∧ emitDomain s = false := by
  cases i
  case emit => exact ⟨rfl, execEmit_eq_fault h⟩
  case check => exact absurd h execCheck_ne_fault
  case finish => exact absurd h execFinish_ne_fault
  case pop => exact absurd h execPop_ne_fault
  case cmdStart => exact absurd h execCmdStart_ne_fault
  case rdOutpop => exact absurd h execRdOutpop_ne_fault
  case wrCtrl | wrSrate | wrTsym | wrBasef | wrBt | wrNsym | wrTones | wrSym =>
    exact absurd h busyProtected_ne_fault
  case rdId | rdVersion | rdCap | rdCtrl | rdCmd | rdStatus | rdErrcode | rdErrinfo | rdIen | rdIpend | rdSrate | rdTsym |
      rdBasef | rdBt | rdNsym | rdTones | rdNsps | rdNtot | rdFcw0 | rdNcnt | rdKidx | rdJidx | rdPhase | rdOutpeek |
      rdSym | rdRsvd =>
    exact absurd h readReturns_ne_fault
  -- every other operation answers `.next` outright
  all_goals nomatch h

/-- The inversion of a fault of `step`: whichever event takes its turn, an enabled `EMIT` was outside its domain. The
events still waiting play no part in either condition. -/
theorem step_eq_fault {s : State} {f : Fault} (h : step s = .fault f) :
    emitEnabled s = true ∧ emitDomain s = false := by
  unfold step at h
  split at h
  case h_1 => -- no event waiting
    split at h
    · exact (exec_eq_fault h).2
    · simp at h
  case h_2 => exact (exec_eq_fault h).2 -- a host transaction
  case h_3 => -- a bus access
    split at h
    · exact (exec_eq_fault h).2
    · simp at h
  case h_4 => -- an engine turn
    split at h
    · exact (exec_eq_fault h).2
    · simp at h
  case h_5 => exact (exec_eq_fault h).2 -- a sink turn
  case h_6 => simp at h -- a hardware reset

/-- A sample still to come belongs to a symbol of the sequence (R56 I2). -/
theorem RunInv.kidx_lt {s : State} (hr : RunInv s) (hn : s.ncnt.toNat < s.ntot.toNat) : s.kidx.toNat < s.nsym.toNat := by
  have hlt : s.kidx.toNat * s.nsps.toNat < s.nsym.toNat * s.nsps.toNat :=
    calc s.kidx.toNat * s.nsps.toNat ≤ s.ncnt.toNat := hr.position ▸ Nat.le_add_right _ _
      _ < s.nsym.toNat * s.nsps.toNat := hr.ntot_eq ▸ hn
  exact Nat.lt_of_mul_lt_mul_right hlt

/-- Under the invariant an enabled `EMIT` is inside the domain of its rules (R231, R233 with R56 I2). -/
theorem Inv.emitDomain_of_emitEnabled {s : State} (hs : Inv s) (he : emitEnabled s = true) : emitDomain s = true := by
  obtain ⟨hrun, -, hn⟩ := (emitEnabled_iff s).1 he
  have hr := hs.inRun hrun
  exact (emitDomain_iff s).2 ⟨hr.kidx_lt hn, hr.legal.nsym_max, hr.jidx_lt, hr.legal.bt_pos, hr.legal.bt_max⟩

/-- Settles O57: a fault needs an enabled `EMIT` outside its domain, which the invariant shuts out. -/
theorem noStepFaultsUnderTheInvariant : Obligations.NoStepFaultsUnderTheInvariant := by
  unfold Obligations.NoStepFaultsUnderTheInvariant
  intro s f hs hf
  obtain ⟨he, hd⟩ := step_eq_fault hf
  simp [hs.emitDomain_of_emitEnabled he] at hd

end Sys2Proof.Machine
end

section
/-! Every step keeps the invariant (10_state.md R56, 60_exceptions.md R343): one lemma per kind of change to the state. -/

namespace Sys2Proof.Machine

/-- Legality depends on the arguments of the run and on `TONES` alone. -/
theorem Legal.of_args_eq {s t : State} (hl : Legal s) (ha : t.args = s.args) (ht : t.tones = s.tones) : Legal t := by
  simp only [State.args, RunArgs.mk.injEq] at ha
  obtain ⟨hsrate, htsym, -, hbt, hnsym, hsym⟩ := ha
  constructor <;> simp only [hsrate, htsym, hbt, hnsym, hsym, ht]
  exacts [hl.rate, hl.nsps_pos, hl.nsps_max, hl.bt_pos, hl.bt_max, hl.nsym_pos, hl.nsym_max, hl.tones_pos, hl.tones_max,
    hl.symbols]

/-- The invariant does not look at the hazard flags, the interrupt registers, `SINKSEL`, the phase, the held word and the
model's own fields. -/
theorem Inv.setUnconstrained {s : State} (hs : Inv s) (wrbusy cmderr sinksel : Bool) (ien ipend : BitVec 3)
    (phase out : Word) (inputs : List Event) (rdata : Option Word) (delivered : List Delivery) :
    Inv { s with wrbusy, cmderr, sinksel, ien, ipend, phase, out, inputs, rdata, delivered } :=
  { hs with
    inRun := fun h => { hs.inRun h with legal := (hs.inRun h).legal.of_args_eq rfl rfl }
    inFault := fun h => { hs.inFault h with } }

/-- Outside a run the arguments are free, but for the canonical form of `SYM`. -/
theorem Inv.setArguments {s : State} (hs : Inv s) (hb : busy s = false) (srate tsym basef bt nsym tones : Word)
    {sym : Memory} (hm : sym.wf) : Inv { s with srate, tsym, basef, bt, nsym, tones, sym } :=
  { hs with
    mem := hm
    inRun := fun h => absurd ((busy_iff s).2 (.inr h)) (by simp [hb])
    inFault := fun h => { hs.inFault h with } }

/-- Emptying the holding register keeps the invariant. -/
theorem Inv.clearOutValid {s : State} (hs : Inv s) : Inv { s with outValid := false } :=
  { hs with
    held := nofun
    lastHeld := nofun
    inRun := fun h => { hs.inRun h with legal := (hs.inRun h).legal.of_args_eq rfl rfl }
    inFault := fun h => { hs.inFault h with } }

/-- A state in `IDLE` or `CHECK` with nothing held and no fault recorded. -/
theorem Inv.of_quiet {s : State} (hq : s.state = .idle ∨ s.state = .check) (hm : s.sym.wf) (hv : s.outValid = false)
    (he : s.errcode = 0#16) (hi : s.errinfo = 0#32) (hd : s.done = true → s.state = .idle) : Inv s where
  mem := hm
  held h := by simp [hv] at h
  inRun h := by simp [h] at hq
  faultIff := ⟨fun h => by simp [h] at hq, fun h => absurd he h⟩
  inFault h := by simp [h] at hq
  noInfo _ := hi
  lastHeld h := by simp [hv] at h
  doneIdle := hd

theorem Inv.errcode_of_not_fault {s : State} (hs : Inv s) (h : s.state ≠ .fault) : s.errcode = 0#16 :=
  not_not.1 fun he => h (hs.faultIff.2 he)

theorem Inv.outValid_of_not_run {s : State} (hs : Inv s) (h : s.state ≠ .run) : s.outValid = false :=
  Bool.eq_false_iff.2 fun hv => h (hs.held hv)

theorem Inv.done_of_not_idle {s : State} (hs : Inv s) (h : s.state ≠ .idle) : s.done = false :=
  Bool.eq_false_iff.2 fun hd => h (hs.doneIdle hd)

/-- The return from the exception: out of `FAULT` the record goes with the fault, elsewhere only the flags change. -/
theorem Inv.clearError {s : State} (hs : Inv s) : Inv s.clearError := by
  by_cases h : s.state = .fault
  · refine .of_quiet ?_ (by rw [State.clearError_sym]; exact hs.mem) ?_ ?_ ?_ ?_ <;> simp [h, hs.outValid_of_not_run]
  · have hc : s.clearError = { s with wrbusy := false, cmderr := false } := by
      unfold State.clearError
      split
      · exact absurd ‹_› h
      all_goals rfl
    exact hc ▸ hs.setUnconstrained ..

/-- The kind of the fault code is `0x01`. -/
theorem errcodeOf_kind (c : BitVec 8) : (errcodeOf c).extractLsb' 0 8 = 0x01#8 :=
  BitVec.extractLsb'_append_eq_right

/-- The cause stands in the upper byte of the fault code. -/
theorem errcodeOf_cause (c : BitVec 8) : (errcodeOf c).extractLsb' 8 8 = c :=
  BitVec.extractLsb'_append_eq_left

theorem errcodeOf_ne_zero (c : BitVec 8) : errcodeOf c ≠ 0#16 := by
  intro h
  have hk := errcodeOf_kind c
  rw [h] at hk
  exact absurd hk (by decide)

/-- Taking the exception out of `CHECK` leaves a fault record as R343 words it. -/
theorem Inv.raiseInvalidParameters {s : State} (hs : Inv s) (hc : s.state = .check) {c : BitVec 8} {w : Word}
    (hf : checkFailure s = some (c, w)) : Inv (s.raiseInvalidParameters c w) where
  mem := hs.mem
  held h := by simp [hs.outValid_of_not_run, hc] at h
  inRun := nofun
  faultIff := by simp [errcodeOf_ne_zero]
  inFault _ :=
    { kind := errcodeOf_kind c
      cause_pos := by simpa [errcodeOf_cause] using (checkFailure_cause hf).1
      cause_max := by simpa [errcodeOf_cause] using (checkFailure_cause hf).2
      nsps_zero := rfl
      ntot_zero := rfl
      fcw0_zero := rfl }
  noInfo h := by simp at h
  lastHeld h := by simp [hs.outValid_of_not_run, hc] at h
  doneIdle h := by simp [hs.done_of_not_idle, hc] at h

/-- The registers `CHECK` derives from legal arguments hold the exact integers. -/
theorem Legal.runInv_beginRun {s : State} (hl : Legal s) : RunInv s.beginRun := by
  have hnsps : s.beginRun.nsps.toNat = samplesPerSymbol s.srate s.tsym := by
    have := hl.nsps_max
    simp only [State.beginRun_nsps, BitVec.toNat_ofNat]
    omega
  have hntot : s.beginRun.ntot.toNat = s.nsym.toNat * samplesPerSymbol s.srate s.tsym := by
    have : s.nsym.toNat * samplesPerSymbol s.srate s.tsym ≤ 256 * 65535 := Nat.mul_le_mul hl.nsym_max hl.nsps_max
    simp only [State.beginRun_ntot, BitVec.toNat_ofNat]
    omega
  exact
    { legal := hl.of_args_eq rfl rfl
      nsps_eq := hnsps
      ntot_eq := by rw [hntot, hnsps]; rfl
      fcw0_eq := rfl
      position := by simp
      jidx_lt := by rw [hnsps]; exact hl.nsps_pos
      ncnt_le := by simp
      kidx_le := by simp }

/-- A passing `CHECK` begins a run at its first sample. -/
theorem Inv.beginRun {s : State} (hs : Inv s) (hc : s.state = .check) (hl : Legal s) : Inv s.beginRun where
  mem := hs.mem
  held := nofun
  inRun _ := hl.runInv_beginRun
  faultIff := by simp [hs.errcode_of_not_fault, hc]
  inFault := nofun
  noInfo _ := hs.noInfo (by simp [hc])
  lastHeld := nofun
  doneIdle h := by simp [hs.done_of_not_idle, hc] at h

/-- `NCNT` counts one sample more, without wrapping. -/
theorem emitSample_ncnt_toNat {s : State} (hn : s.ncnt.toNat < s.ntot.toNat) :
    s.emitSample.ncnt.toNat = s.ncnt.toNat + 1 := by
  have := s.ntot.isLt
  simp only [State.emitSample_ncnt, BitVec.toNat_add, BitVec.toNat_ofNat]
  omega

/-- The sequencer moves one sample on: inside the symbol `JIDX` counts up, at its end `KIDX` does and `JIDX` restarts. -/
theorem RunInv.emitSample_position {s : State} (hr : RunInv s) (hk : s.kidx.toNat < s.nsym.toNat) :
    (s.emitSample.kidx.toNat = s.kidx.toNat ∧ s.emitSample.jidx.toNat = s.jidx.toNat + 1 ∧
        s.jidx.toNat + 1 < s.nsps.toNat) ∨
      (s.emitSample.kidx.toNat = s.kidx.toNat + 1 ∧ s.emitSample.jidx.toNat = 0 ∧ s.jidx.toNat + 1 = s.nsps.toNat) := by
  have hj := hr.jidx_lt
  have hn := s.nsps.isLt
  have hm := hr.legal.nsym_max
  by_cases he : s.jidx.toNat + 1 = s.nsps.toNat
  · refine .inr ⟨?_, ?_, he⟩ <;> simp [State.endsSymbol, he]
    omega
  · refine .inl ⟨?_, ?_, by omega⟩ <;> simp [State.endsSymbol, he]
    omega

/-- `EMIT` keeps what holds in `RUN`. -/
theorem RunInv.emitSample {s : State} (hr : RunInv s) (hn : s.ncnt.toNat < s.ntot.toNat) : RunInv s.emitSample := by
  have hk := hr.kidx_lt hn
  have hncnt := emitSample_ncnt_toNat hn
  obtain ⟨hposition, hjidx, hkidx⟩ :
      s.emitSample.ncnt.toNat = s.emitSample.kidx.toNat * s.nsps.toNat + s.emitSample.jidx.toNat ∧
        s.emitSample.jidx.toNat < s.nsps.toNat ∧ s.emitSample.kidx.toNat ≤ s.nsym.toNat := by
    rw [hncnt, hr.position]
    obtain ⟨hk', hj', hlt⟩ | ⟨hk', hj', hend⟩ := hr.emitSample_position hk
    · rw [hk', hj']
      exact ⟨Nat.add_assoc .., hlt, hk.le⟩
    · rw [hk', hj', Nat.add_assoc, hend, Nat.add_one_mul]
      exact ⟨rfl, by omega, hk⟩
  exact { hr with
    legal := hr.legal.of_args_eq rfl rfl
    position := hposition
    jidx_lt := hjidx
    ncnt_le := hncnt ▸ hn
    kidx_le := hkidx }

/-- `EMIT` keeps the invariant: the sample flagged as the last is that of `NCNT = NTOT`. -/
theorem Inv.emitSample {s : State} (hs : Inv s) (he : emitEnabled s = true) : Inv s.emitSample := by
  obtain ⟨hrun, -, hn⟩ := (emitEnabled_iff s).1 he
  exact
    { hs with
      held := fun _ => hrun
      inRun := fun _ => (hs.inRun hrun).emitSample hn
      inFault := fun h => { hs.inFault h with }
      lastHeld := fun _ h => BitVec.eq_of_toNat_eq (by
        rw [emitSample_ncnt_toNat hn]
        simpa [State.endsRun] using h) }

/-- Every operation keeps the invariant. -/
theorem Effect.inv {s t : State} {i : Instr} (h : Effect s i t) (hs : Inv s) : Inv t := by
  cases h
  -- only fields the invariant does not look at
  case read | stay | discarded | ctrl | ien | ipend | refused | reserved => exact hs.setUnconstrained ..
  -- an argument, outside a run
  case srate hb | tsym hb | basef hb | bt hb | nsym hb | tones hb => exact hs.setArguments hb _ _ _ _ _ _ hs.mem
  case sym a _ hb => exact hs.setArguments hb _ _ _ _ _ _ (Memory.write_wf hs.mem a.isLt)
  -- the holding register is emptied
  case popped | hostTook => exact hs.clearOutValid.setUnconstrained ..
  -- into `IDLE` or `CHECK`
  case start hi =>
    exact .of_quiet (.inr rfl) hs.mem (hs.outValid_of_not_run (by simp [hi])) (hs.errcode_of_not_fault (by simp [hi]))
      (hs.noInfo (by simp [hi])) nofun
  case abort hb =>
    have hf : s.state ≠ .fault := by
      intro hf
      simp [busy, hf] at hb
    exact .of_quiet (.inl rfl) hs.mem rfl (hs.errcode_of_not_fault hf) (hs.noInfo hf) fun _ => rfl
  case finished he =>
    obtain ⟨hrun, hv, -⟩ := (finishEnabled_iff s).1 he
    exact .of_quiet (.inl rfl) hs.mem hv (hs.errcode_of_not_fault (by simp [hrun])) (hs.noInfo (by simp [hrun]))
      fun _ => rfl
  case sreset => exact .of_quiet (.inl rfl) hs.mem rfl rfl rfl nofun
  case clrerr => exact hs.clearError
  -- the engine
  case raised hc hf => exact hs.raiseInvalidParameters hc hf
  case begun hc hl => exact hs.beginRun hc hl
  case emitted he _ => exact hs.emitSample he

/-- The invariant holds after a hardware reset from any state. -/
theorem inv_hardReset (draw : Memory) (s : State) : Inv (s.hardReset draw) :=
  .of_quiet (.inl rfl) (Memory.ofCells_wf draw) rfl rfl rfl nofun

/-- The inversion of `step`: the block waits, or an operation is performed, or it is reset; the events still to come are
those of some list. -/
theorem step_eq_next {s t : State} (h : step s = .next t) :
    t = s ∨ ∃ rest, (∃ i, exec i { s with inputs := rest } = .next t) ∨
      ∃ draw, t = State.hardReset draw { s with inputs := rest } := by
  unfold step at h
  split at h
  case h_1 => -- no event waiting
    split at h
    · exact .inr ⟨s.inputs, .inl ⟨_, h⟩⟩
    · exact .inl (by simpa using h.symm)
  case h_2 => exact .inr ⟨_, .inl ⟨_, h⟩⟩ -- a host transaction
  case h_3 => -- a bus access
    split at h
    · exact .inr ⟨_, .inl ⟨_, h⟩⟩
    · simp at h
  case h_4 => -- an engine turn
    split at h
    · exact .inr ⟨_, .inl ⟨_, h⟩⟩
    · simp at h
  case h_5 => exact .inr ⟨_, .inl ⟨_, h⟩⟩ -- a sink turn
  case h_6 => exact .inr ⟨_, .inr ⟨_, by simpa using h.symm⟩⟩ -- a hardware reset

/-- Settles O55: the next state is the old one, the outcome of an operation, or a reset state. -/
theorem stepKeepsTheInvariant : Obligations.StepKeepsTheInvariant := by
  unfold Obligations.StepKeepsTheInvariant
  intro s t hs h
  obtain rfl | ⟨rest, ⟨i, hi⟩ | ⟨draw, rfl⟩⟩ := step_eq_next h
  · exact hs
  · exact (exec_effect hi).inv (hs.setUnconstrained ..)
  · exact inv_hardReset draw _

end Sys2Proof.Machine
end

section
/-! The rules of 10_state.md over all operations: for each element of the state, which operations can change it and to what,
as a case split on `Effect`; and the other half of each rule, what a given operation always does. -/

namespace Sys2Proof.Machine

section
variable {s t : State} {i : Instr}

/-! What a given operation always does. -/

theorem exec_cmdStart_of_idle (h : s.state = .idle) :
    exec .cmdStart s = .next { s with state := .check, done := false, delivered := [] } := by
  simp [exec, execCmdStart, h]

theorem exec_cmdAbort_of_busy (h : busy s = true) :
    exec .cmdAbort s = .next { s with state := .idle, out := 0#32, outValid := false, outLast := false } := by
  simp [exec, execCmdAbort, h]

theorem exec_cmdClrerr : exec .cmdClrerr s = .next s.clearError := rfl

theorem exec_cmdSreset : exec .cmdSreset s = .next s.resetRegisters := rfl

theorem step_of_reset {draw : Memory} {rest : List Event} (h : s.inputs = .reset draw :: rest) :
    step s = .next (State.hardReset draw { s with inputs := rest }) := by
  simp [step, h]

theorem next_eq_of_exec {w : State} (h : exec i s = .next t) (hw : exec i s = .next w) : t = w := by
  simpa using h.symm.trans hw

/-- Every operation that sets a hazard flag does nothing but that (R53). -/
theorem Effect.of_hazard (h : Effect s i t) (hz : Hazard i s) : t = s.noteWrbusy ∨ t = s.noteCmderr := by
  cases h
  case discarded => exact .inl rfl
  case refused | reserved => exact .inr rfl
  case read hn _ | stay hn _ => exact absurd hz hn
  case ctrl hb | srate hb | tsym hb | basef hb | bt hb | nsym hb | tones hb | sym hb =>
    exact absurd hz (not_hazard_of_not_busy hb (by simp [Instr.mnemonic]) nofun)
  case start hs =>
    have hb : busy s = false := by simp [busy, hs]
    obtain ⟨h, -⟩ | h | ⟨-, h⟩ := hz
    · simp [hs] at h
    · simp [Instr.mnemonic] at h
    · exact absurd hs h
  case ien | ipend | abort | clrerr | sreset | raised | begun | emitted | finished | popped | hostTook =>
    exact absurd hz not_hazard_of_mnemonic

/-! What can change an element of the state. -/

/-- The transitions of `STATE` (R51). -/
theorem Effect.state_cases (h : Effect s i t) :
    t.state = s.state ∨
    (i = .cmdStart ∧ s.state = .idle ∧ t.state = .check) ∨
    (i = .check ∧ s.state = .check ∧ (t.state = .run ∨ t.state = .fault)) ∨
    (i = .finish ∧ s.state = .run ∧ t.state = .idle) ∨
    (i = .cmdAbort ∧ (s.state = .check ∨ s.state = .run) ∧ t.state = .idle) ∨
    (i = .cmdClrerr ∧ s.state = .fault ∧ t.state = .idle) ∨
    (i = .cmdSreset ∧ t.state = .idle) := by
  cases h
  case start hs => simp [hs]
  case raised hs _ | begun hs _ => simp [hs]
  case finished he => simp [((finishEnabled_iff s).1 he).1]
  case abort hb => simp [(busy_iff s).1 hb]
  case clrerr => by_cases hf : s.state = .fault <;> simp [hf]
  case sreset => simp
  all_goals exact .inl rfl

/-- The writers of `DONE` (R52). -/
theorem Effect.done_cases (h : Effect s i t) :
    t.done = s.done ∨ (i = .finish ∧ t.done = true) ∨
      (((i = .cmdStart ∧ s.state = .idle) ∨ i = .cmdSreset) ∧ t.done = false) := by
  cases h
  case start hs => simp [hs]
  case finished | sreset | clrerr => simp
  all_goals exact .inl rfl

/-- The writers of `WRBUSY` (R53). -/
theorem Effect.wrbusy_cases (h : Effect s i t) :
    t.wrbusy = s.wrbusy ∨
    (((s.state = .check ∨ s.state = .run) ∧ i.mnemonic ∈ busyProtectedMnemonics) ∧ t.wrbusy = true) ∨
    ((i = .cmdClrerr ∨ i = .cmdSreset) ∧ t.wrbusy = false) := by
  cases h
  case discarded hb _ hm => exact .inr (.inl ⟨⟨(busy_iff s).1 hb, hm⟩, rfl⟩)
  case clrerr | sreset => simp
  all_goals exact .inl rfl

/-- The writers of `CMDERR` (R53). -/
theorem Effect.cmderr_cases (h : Effect s i t) :
    t.cmderr = s.cmderr ∨
    ((i.mnemonic = "CMD.RSVD" ∨ (i = .cmdStart ∧ s.state ≠ .idle)) ∧ t.cmderr = true) ∨
    ((i = .cmdClrerr ∨ i = .cmdSreset) ∧ t.cmderr = false) := by
  cases h
  case refused hs => simp [hs]
  case reserved => simp [Instr.mnemonic]
  case clrerr | sreset => simp
  all_goals exact .inl rfl

/-- The writers of `IPEND` (R31, R329, R331). -/
theorem Effect.ipend_cases (h : Effect s i t) :
    t.ipend = s.ipend ∨
    (Hazard i s ∧ t.ipend = s.ipend ||| hazIp) ∨
    (i = .check ∧ t.state = .fault ∧ t.ipend = s.ipend ||| errIp) ∨
    (i = .finish ∧ t.ipend = s.ipend ||| doneIp) ∨
    (∃ imm, i = .wrIpend imm ∧ t.ipend = s.ipend &&& ~~~(irqOperand imm)) ∨
    i = .cmdSreset ∧ t.ipend = 0#3 := by
  cases h
  case discarded hb _ hm => exact .inr (.inl ⟨.inl ⟨(busy_iff s).1 hb, hm⟩, rfl⟩)
  case refused hs => exact .inr (.inl ⟨.inr (.inr ⟨rfl, hs⟩), rfl⟩)
  case reserved => exact .inr (.inl ⟨.inr (.inl rfl), rfl⟩)
  case raised | finished | ipend | sreset | clrerr => simp
  all_goals exact .inl rfl

/-- The writers of the sequencer and of the phase (R44, R49). -/
theorem Effect.sequencer_cases (h : Effect s i t) :
    (t.kidx = s.kidx ∧ t.jidx = s.jidx ∧ t.ncnt = s.ncnt ∧ t.phase = s.phase) ∨ i = .emit ∨
      (i = .check ∧ t = s.beginRun) ∨ i = .cmdSreset := by
  cases h
  case emitted | begun | sreset | clrerr => simp
  all_goals exact .inl ⟨rfl, rfl, rfl, rfl⟩

/-- The writers of the derived registers (R38 to R40). -/
theorem Effect.derived_cases (h : Effect s i t) :
    (t.nsps = s.nsps ∧ t.ntot = s.ntot ∧ t.fcw0 = s.fcw0) ∨ i = .check ∨ i = .cmdSreset := by
  cases h
  case raised | begun | sreset | clrerr => simp
  all_goals exact .inl ⟨rfl, rfl, rfl⟩

/-- The writers of the fault record (R28, R29). -/
theorem Effect.faultRecord_cases (h : Effect s i t) :
    (t.errcode = s.errcode ∧ t.errinfo = s.errinfo) ∨ (i = .check ∧ t.state = .fault) ∨
      (i = .cmdClrerr ∧ s.state = .fault) ∨ i = .cmdSreset := by
  cases h
  case raised | sreset => simp
  case clrerr => by_cases hf : s.state = .fault <;> simp [hf]
  all_goals exact .inl ⟨rfl, rfl⟩

/-- While busy the arguments of the run, `TONES` and `SINKSEL` stay (R62, R88, R92). -/
theorem Effect.arguments_of_busy (h : Effect s i t) (hb : busy s = true) (hi : i ≠ .cmdSreset) :
    t.args = s.args ∧ t.tones = s.tones ∧ t.sinksel = s.sinksel := by
  cases h
  case ctrl hn | srate hn | tsym hn | basef hn | bt hn | nsym hn | tones hn | sym hn => simp [hb] at hn
  case sreset => exact absurd rfl hi
  case clrerr => simp [State.args]
  all_goals exact ⟨rfl, rfl, rfl⟩

end

/-- Settles O37: by the transitions an operation can make, and by what each listed operation answers. -/
theorem stateTransitionsAreThoseListed : Obligations.StateTransitionsAreThoseListed := by
  unfold Obligations.StateTransitionsAreThoseListed
  refine ⟨fun i s t h hne => (exec_effect h).state_cases.resolve_left hne, fun i s t h => ⟨?_, ?_, ?_, ?_, ?_, ?_⟩, ?_⟩
  · rintro rfl hs
    rw [next_eq_of_exec h (exec_cmdStart_of_idle hs)]
  · rintro rfl
    obtain ⟨-, ⟨c, w, hf, rfl⟩ | ⟨hl, rfl⟩⟩ := execCheck_eq_next h
    · have hnl : ¬ Legal s := fun hl => by simp [checkFailure_eq_none.2 hl] at hf
      exact ⟨fun hl => absurd hl hnl, fun _ => rfl⟩
    · exact ⟨fun _ => rfl, fun hnl => absurd hl hnl⟩
  · rintro rfl
    rw [(execFinish_eq_next h).2]
  · rintro rfl hs
    rw [next_eq_of_exec h (exec_cmdAbort_of_busy ((busy_iff s).2 hs))]
  · rintro rfl hs
    simp [next_eq_of_exec h exec_cmdClrerr, hs]
  · rintro rfl
    rw [next_eq_of_exec h exec_cmdSreset, State.resetRegisters_state]
  · intro s t draw rest hin h
    obtain rfl : State.hardReset draw { s with inputs := rest } = t := by simpa [step_of_reset hin] using h
    rfl

/-- A flag that stays, is set under `p`, or is cleared under `q`: it rises only under `p` and falls only under `q`. -/
theorem flag_changes_only {old new : Bool} {p q : Prop} (h : new = old ∨ (p ∧ new = true) ∨ (q ∧ new = false)) :
    (old = false → new = true → p) ∧ (old = true → new = false → q) := by
  obtain rfl | ⟨hp, rfl⟩ | ⟨hq, rfl⟩ := h
  · simp +contextual
  · simp [hp]
  · simp [hq]

/-- Settles O38: by the writers of `DONE`. -/
theorem doneChangesOnlyAtRunEnds : Obligations.DoneChangesOnlyAtRunEnds := by
  unfold Obligations.DoneChangesOnlyAtRunEnds
  intro i s t h
  obtain ⟨hset, hclear⟩ := flag_changes_only (exec_effect h).done_cases
  refine ⟨?_, hset, ?_, hclear⟩
  · rintro rfl
    rw [(execFinish_eq_next h).2]
  · rintro (⟨rfl, hs⟩ | rfl)
    · rw [next_eq_of_exec h (exec_cmdStart_of_idle hs)]
    · rw [next_eq_of_exec h exec_cmdSreset, State.resetRegisters_done]

/-- Settles O39: by the writers of the two flags. -/
theorem hazardFlagsAreSticky : Obligations.HazardFlagsAreSticky := by
  unfold Obligations.HazardFlagsAreSticky
  intro i s t h
  obtain ⟨hwset, hwclear⟩ := flag_changes_only (exec_effect h).wrbusy_cases
  obtain ⟨hcset, hcclear⟩ := flag_changes_only (exec_effect h).cmderr_cases
  refine ⟨hwclear, hcclear, ?_, hwset, hcset⟩
  rintro (rfl | rfl)
  · simp [next_eq_of_exec h exec_cmdClrerr]
  · simp [next_eq_of_exec h exec_cmdSreset]

/-! The bits of `IPEND`. -/

@[simp] theorem getLsbD_doneIp (b : Nat) : doneIp.getLsbD b = decide (b = 0) := by
  simp [doneIp]

@[simp] theorem getLsbD_errIp (b : Nat) : errIp.getLsbD b = decide (b = 1) := by
  obtain _ | _ | _ | b := b
  iterate 3 rfl
  simp [errIp]

@[simp] theorem getLsbD_hazIp (b : Nat) : hazIp.getLsbD b = decide (b = 2) := by
  obtain _ | _ | _ | b := b
  iterate 3 rfl
  simp [hazIp]

/-- A pending bit rises only by its own source. -/
theorem Effect.ipend_rises {s t : State} {i : Instr} (h : Effect s i t) {b : Nat} (hs : s.ipend.getLsbD b = false)
    (ht : t.ipend.getLsbD b = true) :
    (b = 0 ∧ i = .finish) ∨ (b = 1 ∧ i = .check ∧ t.state = .fault) ∨ (b = 2 ∧ Hazard i s) := by
  obtain he | ⟨hz, he⟩ | ⟨hi, hf, he⟩ | ⟨hi, he⟩ | ⟨imm, -, he⟩ | ⟨-, he⟩ := h.ipend_cases <;> simp [he, hs] at ht
  · exact .inr (.inr ⟨ht, hz⟩)
  · exact .inr (.inl ⟨ht, hi, hf⟩)
  · exact .inl ⟨ht, hi⟩

/-- A pending bit falls only by an `IPEND` write with a 1 in its place or by `SRESET`. -/
theorem Effect.ipend_falls {s t : State} {i : Instr} (h : Effect s i t) {b : Nat} (hs : s.ipend.getLsbD b = true)
    (ht : t.ipend.getLsbD b = false) : (∃ imm : Word, i = .wrIpend imm ∧ imm.getLsbD b = true) ∨ i = .cmdSreset := by
  have hb : b < 3 := BitVec.lt_of_getLsbD hs
  obtain he | ⟨-, he⟩ | ⟨-, -, he⟩ | ⟨-, he⟩ | ⟨imm, hi, he⟩ | ⟨hi, -⟩ := h.ipend_cases
  case inr.inr.inr.inr.inl => exact .inl ⟨imm, hi, by simpa [he, hs, hb, irqOperand] using ht⟩
  case inr.inr.inr.inr.inr => exact .inr hi
  all_goals simp [he, hs] at ht

/-- A flag of 10_state.md R53 rises only by an operation that sets a hazard flag. -/
theorem Effect.hazard_of_flag_rises {s t : State} {i : Instr} (h : Effect s i t)
    (hr : (s.wrbusy = false ∧ t.wrbusy = true) ∨ (s.cmderr = false ∧ t.cmderr = true)) : Hazard i s := by
  obtain ⟨hs, ht⟩ | ⟨hs, ht⟩ := hr
  · exact .inl ((flag_changes_only h.wrbusy_cases).1 hs ht)
  · exact .inr ((flag_changes_only h.cmderr_cases).1 hs ht)

/-- Settles O40: by the sources of each bit and by what each source leaves in `IPEND`. -/
theorem pendingBitsFollowTheirSources : Obligations.PendingBitsFollowTheirSources := by
  unfold Obligations.PendingBitsFollowTheirSources
  intro i s t h
  have he := exec_effect h
  refine ⟨fun hs ht => ?_, fun hs ht => ?_, fun hs ht => ?_, ?_, ?_, fun hz => ?_, he.hazard_of_flag_rises,
    fun b _ hs ht => he.ipend_falls hs ht⟩
  iterate 3 · simpa using he.ipend_rises hs ht
  · rintro rfl
    simp [(execFinish_eq_next h).2]
  · rintro rfl hf
    obtain ⟨-, ⟨c, w, -, rfl⟩ | ⟨-, rfl⟩⟩ := execCheck_eq_next h
    · simp
    · simp at hf
  · obtain rfl | rfl := he.of_hazard hz <;> simp

/-- Settles O42: by the writers of the sequencer, and by what `CHECK` and `SRESET` leave there. -/
theorem sequencerMovesOnlyByEngine : Obligations.SequencerMovesOnlyByEngine := by
  unfold Obligations.SequencerMovesOnlyByEngine
  intro i s t h
  have hcases := (exec_effect h).sequencer_cases
  refine ⟨fun he hc hr => ?_, ?_, ?_⟩
  · simpa [he, hc, hr] using hcases
  · rintro rfl hf
    obtain hsame | he | ⟨-, rfl⟩ | hr := hcases
    · exact hsame
    · simp at he
    · simp at hf
    · simp at hr
  · rintro (⟨rfl, hrun⟩ | rfl)
    · obtain ⟨-, ⟨c, w, -, rfl⟩ | ⟨-, rfl⟩⟩ := execCheck_eq_next h
      · simp at hrun
      · exact ⟨rfl, rfl, rfl, rfl⟩
    · rw [next_eq_of_exec h exec_cmdSreset]
      exact ⟨rfl, rfl, rfl, rfl⟩

/-- Settles O43: by the writers of the derived registers and of the fault record. -/
theorem derivedRegistersAndFaultRecordWriters : Obligations.DerivedRegistersAndFaultRecordWriters := by
  unfold Obligations.DerivedRegistersAndFaultRecordWriters
  intro i s t h
  refine ⟨fun hc hr => ?_, fun hc hcl hr => ?_⟩
  · simpa [hc, hr] using (exec_effect h).derived_cases
  · obtain hsame | ⟨hi, hf⟩ | ⟨hi, hf⟩ | hi := (exec_effect h).faultRecord_cases
    · exact hsame
    · simp [hc hi] at hf
    · exact absurd hf (hcl hi)
    · exact absurd hi hr

/-- Settles O44: while busy every write to an argument is discarded. -/
theorem argumentsAreFrozenWhileBusy : Obligations.ArgumentsAreFrozenWhileBusy := by
  unfold Obligations.ArgumentsAreFrozenWhileBusy
  intro i s t hb hi h
  obtain ⟨hargs, htones, hsink⟩ := (exec_effect h).arguments_of_busy ((busy_iff s).2 hb) hi
  simp only [State.args, RunArgs.mk.injEq] at hargs
  obtain ⟨hsrate, htsym, hbasef, hbt, hnsym, hsym⟩ := hargs
  exact ⟨hsrate, htsym, hbasef, hbt, hnsym, htones, hsink, fun a => by rw [hsym]⟩

/-- Settles O45: each argument's own write is the one operation but `SRESET` that changes it, and `SRESET` keeps `SYM`. -/
theorem parametersChangeOnlyByTheirWrites : Obligations.ParametersChangeOnlyByTheirWrites := by
  unfold Obligations.ParametersChangeOnlyByTheirWrites
  intro i s t h
  cases exec_effect h
  -- the writes: each by its mnemonic
  case ctrl | srate | tsym | basef | bt | nsym | tones | sym | ien => simp [Instr.mnemonic]
  case sreset | clrerr => simp
  all_goals
    exact ⟨fun _ _ => rfl, fun _ => ⟨fun _ => rfl, fun _ => rfl, fun _ => rfl, fun _ => rfl, fun _ => rfl, fun _ => rfl,
      fun _ => rfl, fun _ => rfl⟩⟩

end Sys2Proof.Machine
end

section
/-! The invariants at reset and over runs (10_state.md R56, R58; 70_reset_and_hazards.md R360), and what a reset state and
the `STATUS` register show (R27). -/

namespace Sys2Proof.Machine

/-- Every reachable state has the invariant. -/
theorem Reachable.inv {s : State} (h : Reachable s) : Inv s := by
  induction h with
  | start draw events => exact inv_hardReset draw _
  | next _ hstep ih => exact stepKeepsTheInvariant _ _ ih hstep

/-- Two's complement as `s32` evaluates it is the library's. -/
theorem s32_eq_toInt (v : Word) : s32 v = v.toInt := by
  have := v.isLt
  simp only [s32, BitVec.toInt_eq_toNat_cond]
  split_ifs <;> omega

/-- Settles O56: I1 to I5 are read off the invariant. -/
theorem reachableStatesMeetI1ToI5 : Obligations.ReachableStatesMeetI1ToI5 := by
  unfold Obligations.ReachableStatesMeetI1ToI5
  intro s h
  have hs := h.inv
  refine ⟨fun hst => hs.outValid_of_not_run ?_, fun hrun => ?_, hs.faultIff, hs.lastHeld, hs.doneIdle⟩
  · intro hrun
    simp [hrun] at hst
  · have hr := hs.inRun hrun
    have hl := hr.legal
    exact ⟨hr.nsps_eq ▸ hl.nsps_pos, hr.nsps_eq ▸ hl.nsps_max, hl.nsym_pos, hl.nsym_max, hr.ntot_eq, hr.position,
      hr.jidx_lt, hr.ncnt_le, hr.kidx_le, hl.tones_pos, hl.tones_max, hl.bt_pos, hl.bt_max, s32_eq_toInt _ ▸ hl.rate,
      hl.symbols⟩

/-- Outside `CHECK` and `RUN` the invariant of the samples asks nothing. -/
theorem WaveInv.of_idle {s : State} (h : s.state = .idle) : WaveInv s := by
  constructor <;> simp [h]

/-- Settles O54: a reset state is in `IDLE`, with nothing held and no fault recorded. -/
theorem invariantHoldsAfterReset : Obligations.InvariantHoldsAfterReset := by
  unfold Obligations.InvariantHoldsAfterReset
  exact fun draw s => ⟨inv_hardReset draw s, .of_idle rfl, .of_quiet (.inl rfl) ⟨.nil, nofun⟩ rfl rfl rfl nofun, .of_idle rfl⟩

/-! The word of `STATUS` (R27). -/

/-- The fields of `STATUS` by bit: the code of `STATE`, two reserved bits, the seven flags, and zeros above. -/
theorem statusWord_getLsbD (s : State) (k : Nat) : (statusWord s).getLsbD k =
    if k < 2 then s.state.code.getLsbD k
    else [false, false, busy s, s.done, err s, s.outValid, s.wrbusy, s.cmderr, olast s].getD (k - 2) false := by
  change BitVec.getLsbD (w := 21 + 1 + 1 + 1 + 1 + 1 + 1 + 1 + 2 + 2) (statusWord s) k = _
  simp only [statusWord, BitVec.getLsbD_append]
  obtain _ | _ | _ | _ | _ | _ | _ | _ | _ | _ | _ | k := k
  all_goals simp

theorem statusWord_reserved_low (s : State) : (statusWord s).extractLsb' 2 2 = 0#2 := by
  ext k hk
  rw [BitVec.getElem_extractLsb', statusWord_getLsbD]
  obtain _ | _ | k := k
  · simp
  · simp
  · omega

theorem statusWord_reserved_high (s : State) : (statusWord s).extractLsb' 11 21 = 0#21 := by
  ext k hk
  rw [BitVec.getElem_extractLsb', statusWord_getLsbD, if_neg (by omega), List.getD_eq_default _ _ (by simp; omega)]
  simp

theorem statusWord_hardReset (draw : Memory) (s : State) : statusWord (s.hardReset draw) = 0#32 := by
  simp only [statusWord, olast, busy, err, State.hardReset_state, State.hardReset_done, State.hardReset_wrbusy,
    State.hardReset_cmderr, State.hardReset_outValid, State.hardReset_outLast]
  decide

/-- Settles O13: field by field, from the word's bits. -/
theorem statusReadShowsTheState : Obligations.StatusReadShowsTheState := by
  unfold Obligations.StatusReadShowsTheState
  intro s d
  have hcode : (statusWord s).extractLsb' 0 2 = s.state.code := BitVec.extractLsb'_append_eq_right
  have hbit := statusWord_getLsbD s
  refine ⟨decodeWord_mkT_read _ d, statusWord s, rfl, ?_, statusWord_reserved_low s, ?_, hbit 5, ?_, hbit 7, hbit 8, hbit 9,
    hbit 10, statusWord_reserved_high s, fun draw => ?_⟩
  · rw [hcode]
    cases s.state <;> rfl
  · rw [hbit]
    exact busy_iff s
  · rw [hbit]
    exact err_iff s
  · rw [← statusWord_hardReset draw s]
    rfl

/-- Settles O28: the event leaves the reset values, from which the pins and the reads follow. -/
theorem hardwareResetFromAnyState : Obligations.HardwareResetFromAnyState := by
  unfold Obligations.HardwareResetFromAnyState
  intro s f rest hin
  generalize hdraw : (List.range 256).map (fun i => (i, f i)) = draw at hin
  refine ⟨_, step_of_reset hin, rfl, fun k hk => ?_, by simp [irq], rfl, ?_, rfl, rfl⟩
  · rw [State.hardReset_sym, ← hdraw, Memory.read_ofCells_table f 256 le_rfl, if_pos hk]
  · rw [← statusWord_hardReset draw { s with inputs := rest }]
    rfl

end Sys2Proof.Machine
end

section
/-! The memory map of the block (20_memory.md): what has been delivered at the end of a run, reads and busy-protected writes
by address, and the bridge of a byte-addressed bus. -/

namespace Sys2Proof.Machine

/-! A run that ends (R93, R246). -/

/-- In `RUN` the register `NTOT` holds the length of the waveform of the arguments. -/
theorem RunInv.ntot_eq_args {s : State} (hr : RunInv s) : s.ntot.toNat = s.args.ntot := by
  rw [hr.ntot_eq, hr.nsps_eq]
  rfl

/-- Settles O59: `FINISH` is taken with nothing held and `NCNT = NTOT`, where every sample counted has been taken. -/
theorem finishMeansDelivered : Obligations.FinishMeansDelivered := by
  unfold Obligations.FinishMeansDelivered
  intro s t hs hw h
  obtain ⟨he, rfl⟩ := execFinish_eq_next h
  obtain ⟨hrun, hempty, hlast⟩ := (finishEnabled_iff s).1 he
  have hcount : s.ncnt.toNat = s.args.ntot := by rw [hlast, (hs.inRun hrun).ntot_eq_args]
  have htaken : s.taken = s.args.ntot := by simp [State.taken, hempty, hcount]
  exact ⟨htaken ▸ hw.taken_eq hrun, rfl, rfl, hcount ▸ hw.phase_eq hrun⟩

/-! Reads by address (R81, R86). -/

/-- What a read address selects (R120). -/
theorem decodeRead_cases (a : Addr) :
    decodeRead a = .rdSym (a.extractLsb' 0 8) ∨ decodeRead a = .rdCmd ∨
      (∃ r ∈ regMap, r.addr = a ∧ decodeRead a = r.read) ∨ decodeRead a = .rdRsvd a := by
  unfold decodeRead
  split
  · exact .inl rfl
  · split
    · exact .inr (.inl rfl)
    · split
      · next r hr =>
        refine .inr (.inr (.inl ⟨r, List.mem_of_find?_eq_some hr, ?_, rfl⟩))
        simpa using List.find?_some hr
      · exact .inr (.inr (.inr rfl))

/-- A read that takes nothing: only the returned word changes, and it does not depend on the word returned before. -/
def IdempotentRead (i : Instr) : Prop :=
  ∀ s : State, (∃ w, exec i s = .next { s with rdata := some w }) ∧ ∀ v, exec i { s with rdata := v } = exec i s

/-- Every named register but `OUTPOP` has an idempotent read. -/
theorem idempotentRead_of_mem_regMap {r : RegRow} (hr : r ∈ regMap) (ha : r.addr ≠ 0x021#10) : IdempotentRead r.read := by
  fin_cases hr
  iterate 23 · exact fun _ => ⟨⟨_, rfl⟩, fun _ => rfl⟩
  · exact absurd rfl ha -- `OUTPOP`, the last row

theorem idempotentRead_decodeRead {a : Addr} (ha : a ≠ 0x021#10) : IdempotentRead (decodeRead a) := by
  obtain h | h | ⟨r, hr, rfl, h⟩ | h := decodeRead_cases a <;> rw [h]
  case inr.inr.inl => exact idempotentRead_of_mem_regMap hr ha
  all_goals exact fun _ => ⟨⟨_, rfl⟩, fun _ => rfl⟩ -- `RD.SYM`, `RD.CMD`, `RD.RSVD`

/-- Settles O17: the word read again does not depend on the word returned before. -/
theorem readsButOutpopAreIdempotent : Obligations.ReadsButOutpopAreIdempotent := by
  unfold Obligations.ReadsButOutpopAreIdempotent
  intro s a d ha
  rw [decodeWord_mkT_read]
  obtain ⟨⟨w, hfirst⟩, hsame⟩ := idempotentRead_decodeRead ha s
  exact ⟨w, hfirst, (hsame (some w)).trans hfirst⟩

/-! Busy-protected writes by address (R88, R141). -/

/-- While busy, every operation of the busy-protected set only sets `WRBUSY` and `HAZ_IP`. -/
theorem exec_busyProtected_of_busy {i : Instr} {s : State} (hi : i.mnemonic ∈ busyProtectedMnemonics)
    (hb : busy s = true) : exec i s = .next s.noteWrbusy := by
  cases i
  case wrCtrl | wrSrate | wrTsym | wrBasef | wrBt | wrNsym | wrTones | wrSym => exact busyProtected_of_busy hb
  all_goals simp [Instr.mnemonic, busyProtectedMnemonics] at hi

/-- A write to the symbol memory's addresses is `WR.SYM` (R81, R120). -/
theorem decodeWrite_of_symbolAddr {a : Addr} (d : Word) (h0 : 0x100 ≤ a.toNat) (h1 : a.toNat ≤ 0x1FF) :
    decodeWrite a d = .wrSym (a.extractLsb' 0 8) d := by
  have hcmd : a ≠ cmdAddr := by
    rintro rfl
    exact absurd h0 (by decide)
  have hsym : a.extractLsb' 8 2 = 0b01#2 := by
    apply BitVec.eq_of_toNat_eq
    simp only [BitVec.extractLsb'_toNat, Nat.shiftRight_eq_div_pow, BitVec.toNat_ofNat]
    omega
  rw [decodeWrite, if_neg hcmd, if_pos hsym]

/-- The busy-protected set by address (R88). -/
theorem decodeWrite_mem_busyProtectedMnemonics {a : Addr} (d : Word)
    (ha : a = 0x003#10 ∨ (0x010 ≤ a.toNat ∧ a.toNat ≤ 0x015) ∨ (0x100 ≤ a.toNat ∧ a.toNat ≤ 0x1FF)) :
    (decodeWrite a d).mnemonic ∈ busyProtectedMnemonics := by
  obtain rfl | ⟨h0, h1⟩ | ⟨h0, h1⟩ := ha
  · simp [decodeWrite, cmdAddr, regAt, regMap, controlRows, Instr.mnemonic, busyProtectedMnemonics]
  · obtain rfl | rfl | rfl | rfl | rfl | rfl :
        a = 0x010#10 ∨ a = 0x011#10 ∨ a = 0x012#10 ∨ a = 0x013#10 ∨ a = 0x014#10 ∨ a = 0x015#10 := by bv_omega
    all_goals
      simp [decodeWrite, cmdAddr, regAt, regMap, controlRows, datapathRows, Instr.mnemonic, busyProtectedMnemonics]
  · rw [decodeWrite_of_symbolAddr d h0 h1]
    simp [Instr.mnemonic, busyProtectedMnemonics]

/-- Settles O19: each address of the set selects an operation of the busy-protected set. -/
theorem busyProtectedWritesAreDiscarded : Obligations.BusyProtectedWritesAreDiscarded := by
  unfold Obligations.BusyProtectedWritesAreDiscarded
  intro s a d hb ha
  rw [decodeWord_mkT_write, exec_busyProtected_of_busy (decodeWrite_mem_busyProtectedMnemonics d ha) ((busy_iff s).2 hb)]
  rfl

/-! The bridge of a byte-addressed bus (R83, R84). -/

/-- The lanes of a word make that word (R83). -/
@[simp] theorem lanesWord_wordLanes (w : Word) : lanesWord (wordLanes w) = some w := by
  simp only [lanesWord, wordLanes, Option.some.injEq]
  rw [BitVec.extractLsb'_append_extractLsb'_eq_extractLsb' (rfl : 24 = 16 + 8),
    BitVec.extractLsb'_append_extractLsb'_eq_extractLsb' (rfl : 16 = 8 + 8),
    BitVec.extractLsb'_append_extractLsb'_eq_extractLsb' (rfl : 8 = 0 + 8)]
  exact BitVec.extractLsb'_eq_self

/-- Four lanes are the lanes of a word (R83). -/
theorem exists_wordLanes_eq {lanes : List Byte} (h : lanes.length = 4) : ∃ w : Word, lanes = wordLanes w := by
  obtain ⟨b0, b1, b2, b3, rfl⟩ := List.length_eq_four.1 h
  refine ⟨b3 ++ b2 ++ b1 ++ b0, ?_⟩
  simp only [wordLanes, List.cons.injEq, and_true]
  refine ⟨BitVec.extractLsb'_append_eq_right.symm, ?_, ?_, ?_⟩
  · rw [BitVec.extractLsb'_append_eq_of_le (by decide)]
    exact BitVec.extractLsb'_append_eq_right.symm
  · rw [BitVec.extractLsb'_append_eq_of_le (by decide), BitVec.extractLsb'_append_eq_of_le (by decide)]
    exact BitVec.extractLsb'_append_eq_right.symm
  · rw [BitVec.extractLsb'_append_eq_of_le (by decide), BitVec.extractLsb'_append_eq_of_le (by decide)]
    exact BitVec.extractLsb'_append_eq_left.symm

theorem lanesWord_of_length_ne {lanes : List Byte} (h : lanes.length ≠ 4) : lanesWord lanes = none := by
  unfold lanesWord
  split
  · exact absurd rfl h
  · rfl

/-- An aligned word inside the block is the transaction at word address `offset / 4`. -/
theorem busWord_of_aligned {b : BusAccess} {a : Addr} {d : Word} (hw : b.width = 4) (ho : b.offset = 4 * a.toNat)
    (hd : b.data = some d) : busWord b = .ok (mkT b.dir a d) := by
  have ha : b.offset / 4 = a.toNat := by omega
  simp [busWord, hw, ho, hd, mkT, a.isLt]

theorem busWord_of_not_aligned_word {b : BusAccess}
    (h : b.width ≠ 4 ∨ b.offset % 4 ≠ 0 ∨ (b.write = true ∧ b.lanes.length ≠ 4)) :
    busWord b = .error .notOneAlignedWord := by
  unfold busWord
  split
  · rfl
  · obtain ⟨hwrite, hlanes⟩ : b.write = true ∧ b.lanes.length ≠ 4 := by tauto
    simp [BusAccess.data, hwrite, lanesWord_of_length_ne hlanes]

theorem busWord_of_outside {b : BusAccess} (hw : b.width = 4) (ho : b.offset % 4 = 0)
    (hl : b.write = true → b.lanes.length = 4) (hout : 4096 ≤ b.offset) : busWord b = .error .outsideTheBlock := by
  obtain ⟨d, hd⟩ : ∃ d, b.data = some d := by
    unfold BusAccess.data
    split
    · next hwrite =>
      obtain ⟨d, hd⟩ := exists_wordLanes_eq (hl hwrite)
      exact ⟨d, hd ▸ lanesWord_wordLanes d⟩
    · exact ⟨_, rfl⟩
  have hpast : ¬ b.offset / 4 < 1024 := by omega
  simp [busWord, hw, ho, hd, hpast]

section
variable {s : State} {b : BusAccess} {rest : List Event}

theorem step_of_bus_ok {t : TWord} (h : s.inputs = .bus b :: rest) (hb : busWord b = .ok t) :
    step s = exec (decodeWord t) { s with inputs := rest } := by
  simp [step, h, hb]

theorem step_of_bus_error {r : Refusal} (h : s.inputs = .bus b :: rest) (hb : busWord b = .error r) :
    step s = .refused r := by
  simp [step, h, hb]

end

/-- Settles O8: by what `busWord` makes of each access. -/
theorem bridgeAcceptsAlignedWordsOnly : Obligations.BridgeAcceptsAlignedWordsOnly := by
  unfold Obligations.BridgeAcceptsAlignedWordsOnly
  refine ⟨fun a d lanes => ⟨?_, ?_⟩, fun lanes => exists_wordLanes_eq, fun s b rest hin =>
    ⟨fun h => ?_, fun hw ho hl hout => ?_, fun t => step_of_bus_ok hin⟩⟩
  · exact busWord_of_aligned rfl rfl (lanesWord_wordLanes d)
  · exact busWord_of_aligned rfl rfl rfl
  · exact step_of_bus_error hin (busWord_of_not_aligned_word h)
  · exact step_of_bus_error hin (busWord_of_outside hw ho hl hout)

end Sys2Proof.Machine
end

section
/-! The encoding (30_encoding.md): the four classes of word addresses (20_memory.md R81) and what a word of each decodes
to, and the reserved command words. -/

namespace Sys2Proof

/-! The classes of word addresses: `CMD`, the symbol memory, the named registers, the reserved addresses. -/

theorem symbolAddr_bounds (i : Byte) : 0x100 ≤ (0b01#2 ++ i : Addr).toNat ∧ (0b01#2 ++ i : Addr).toNat ≤ 0x1FF := by
  have := i.isLt
  rw [BitVec.toNat_append, ← Nat.shiftLeft_add_eq_or_of_lt i.isLt, Nat.shiftLeft_eq]
  simp only [BitVec.toNat_ofNat]
  omega

/-- An address in the symbol memory is its index below `01` (R111, format `HT-S`). -/
theorem eq_symbolAddr {a : Addr} (h : a.extractLsb' 8 2 = 0b01#2) : a = 0b01#2 ++ a.extractLsb' 0 8 := by
  rw [← h]
  have happ := BitVec.extractLsb'_append_extractLsb'_eq_extractLsb' (x := a) (start₁ := 0) (len₁ := 8) (len₂ := 2) rfl
  exact (happ.trans BitVec.extractLsb'_eq_self).symm

theorem reservedAddr_iff (a : Addr) : reservedAddr a = true ↔
    (0x00A ≤ a.toNat ∧ a.toNat ≤ 0x00F) ∨ a.toNat = 0x016 ∨ a.toNat = 0x017 ∨ a.toNat = 0x01F ∨
      (0x022 ≤ a.toNat ∧ a.toNat ≤ 0x0FF) ∨ 0x200 ≤ a.toNat := by
  simp [reservedAddr, or_assoc]

theorem not_reservedAddr_symbolAddr (i : Byte) : reservedAddr (0b01#2 ++ i) ≠ true := by
  obtain ⟨h0, h1⟩ := symbolAddr_bounds i
  rw [Ne, reservedAddr_iff]
  omega

theorem not_reservedAddr_of_mem_regMap : ∀ r ∈ regMap, reservedAddr r.addr ≠ true := by decide

/-- An address outside the other three classes is reserved (R81, R82). -/
theorem reservedAddr_of_unnamed {a : Addr} (hcmd : a ≠ cmdAddr) (hsym : a.extractLsb' 8 2 ≠ 0b01#2)
    (hreg : ∀ r ∈ regMap, r.addr ≠ a) : reservedAddr a = true := by
  have hsym' : a.toNat / 256 % 4 ≠ 1 := fun h => hsym (by
    apply BitVec.eq_of_toNat_eq
    simpa [Nat.shiftRight_eq_div_pow] using h)
  simp only [regMap, controlRows, datapathRows, List.cons_append, List.nil_append, List.forall_mem_cons] at hreg
  rw [reservedAddr_iff]
  simp only [cmdAddr] at hcmd
  bv_omega

theorem addr_cases (a : Addr) :
    a = cmdAddr ∨ (∃ i : Byte, a = 0b01#2 ++ i) ∨ (∃ r ∈ regMap, r.addr = a) ∨ reservedAddr a = true := by
  by_cases hcmd : a = cmdAddr
  · exact .inl hcmd
  by_cases hsym : a.extractLsb' 8 2 = 0b01#2
  · exact .inr (.inl ⟨_, eq_symbolAddr hsym⟩)
  by_cases hreg : ∃ r ∈ regMap, r.addr = a
  · exact .inr (.inr (.inl hreg))
  · exact .inr (.inr (.inr (reservedAddr_of_unnamed hcmd hsym fun r hr ha => hreg ⟨r, hr, ha⟩)))

/-! What a read and a write of each class select (R120). -/

theorem decodeRead_symbolAddr (i : Byte) : decodeRead (0b01#2 ++ i) = .rdSym i := by
  rw [decodeRead, if_pos BitVec.extractLsb'_append_eq_left, BitVec.extractLsb'_append_eq_right]

theorem decodeWrite_symbolAddr (i : Byte) (d : Word) : decodeWrite (0b01#2 ++ i) d = .wrSym i d := by
  obtain ⟨h0, h1⟩ := symbolAddr_bounds i
  rw [Machine.decodeWrite_of_symbolAddr d h0 h1, BitVec.extractLsb'_append_eq_right]

theorem decode_of_mem_regMap {r : RegRow} (hr : r ∈ regMap) :
    decodeRead r.addr = r.read ∧ ∀ d, decodeWrite r.addr d = r.write d := by
  fin_cases hr
  all_goals exact ⟨rfl, fun _ => rfl⟩

theorem regAt_of_reservedAddr {a : Addr} (h : reservedAddr a = true) : regAt a = none := by
  refine List.find?_eq_none.2 fun r hr ha => not_reservedAddr_of_mem_regMap r hr ?_
  rwa [beq_iff_eq.1 ha]

theorem decode_of_reservedAddr {a : Addr} (h : reservedAddr a = true) :
    decodeRead a = .rdRsvd a ∧ ∀ d, decodeWrite a d = .wrRsvd a d := by
  have hsym : a.extractLsb' 8 2 ≠ 0b01#2 := fun hs => not_reservedAddr_symbolAddr _ (eq_symbolAddr hs ▸ h)
  have hcmd : a ≠ cmdAddr := fun hc => absurd (hc ▸ h) (by decide)
  simp [decodeRead, decodeWrite, hsym, hcmd, regAt_of_reservedAddr h]

/-! Command words (R112 to R114). -/

/-- A reserved command by number: an operand that is not 0, or an opcode above `0x04` (R114). -/
theorem reservedCommand_iff (d : Word) :
    reservedCommand d = true ↔ d.toNat % 2 ^ 24 ≠ 0 ∨ 0x05 ≤ d.toNat / 2 ^ 24 := by
  have := d.isLt
  simp only [reservedCommand, Bool.or_eq_true, bne_iff_ne, decide_eq_true_eq, Ne, ← BitVec.toNat_inj,
    BitVec.extractLsb'_toNat, BitVec.toNat_ofNat, Nat.shiftRight_eq_div_pow]
  omega

/-- A command that is not reserved is one of the five words of R113. -/
theorem command_cases {d : Word} (h : reservedCommand d ≠ true) :
    d = 0x00000000#32 ∨ d = 0x01000000#32 ∨ d = 0x02000000#32 ∨ d = 0x03000000#32 ∨ d = 0x04000000#32 := by
  rw [Ne, reservedCommand_iff] at h
  bv_omega

theorem decodeCommand_of_reservedCommand {d : Word} (h : reservedCommand d = true) : decodeCommand d = .cmdRsvd d := by
  unfold decodeCommand
  split_ifs with h0 h1 h2 h3 h4 h5
  case neg | neg => rfl -- an operand, or an opcode above `0x04`
  all_goals simp [reservedCommand, *] at h

/-! Encoding after decoding. -/

/-- A well-formed operation whose word is `t`. -/
def IsOperationOf (i : Instr) (t : TWord) : Prop := i.wf = true ∧ encode i = some t

theorem isOperationOf_decodeCommand (d : Word) : IsOperationOf (decodeCommand d) (mkT 1#1 cmdAddr d) := by
  by_cases h : reservedCommand d = true
  · rw [decodeCommand_of_reservedCommand h]
    exact ⟨h, rfl⟩
  · obtain rfl | rfl | rfl | rfl | rfl := command_cases h
    all_goals exact ⟨rfl, rfl⟩

theorem isOperationOf_of_mem_regMap {r : RegRow} (hr : r ∈ regMap) :
    IsOperationOf r.read (mkT 0#1 r.addr 0#32) ∧ ∀ d, IsOperationOf (r.write d) (mkT 1#1 r.addr d) := by
  fin_cases hr
  all_goals exact ⟨⟨rfl, rfl⟩, fun _ => ⟨rfl, rfl⟩⟩

theorem isOperationOf_decodeRead (a : Addr) : IsOperationOf (decodeRead a) (mkT 0#1 a 0#32) := by
  obtain rfl | ⟨i, rfl⟩ | ⟨r, hr, rfl⟩ | h := addr_cases a
  · exact ⟨rfl, rfl⟩
  · rw [decodeRead_symbolAddr]
    exact ⟨rfl, rfl⟩
  · rw [(decode_of_mem_regMap hr).1]
    exact (isOperationOf_of_mem_regMap hr).1
  · rw [(decode_of_reservedAddr h).1]
    exact ⟨h, rfl⟩

theorem isOperationOf_decodeWrite (a : Addr) (d : Word) : IsOperationOf (decodeWrite a d) (mkT 1#1 a d) := by
  obtain rfl | ⟨i, rfl⟩ | ⟨r, hr, rfl⟩ | h := addr_cases a
  · exact isOperationOf_decodeCommand d
  · rw [decodeWrite_symbolAddr]
    exact ⟨rfl, rfl⟩
  · rw [(decode_of_mem_regMap hr).2]
    exact (isOperationOf_of_mem_regMap hr).2 d
  · rw [(decode_of_reservedAddr h).2]
    exact ⟨h, rfl⟩

/-- Settles O2: by the direction, then by the class of the address. -/
theorem encodeOfDecodeIsCanonical : Obligations.EncodeOfDecodeIsCanonical := by
  unfold Obligations.EncodeOfDecodeIsCanonical
  intro t
  unfold decodeWord
  split_ifs with hw
  · have h := isOperationOf_decodeWrite (tAddr t) (tData t)
    rwa [← hw, mkT_fields] at h
  · exact isOperationOf_decodeRead (tAddr t)

/-! Decoding after encoding. -/

/-- Settles O1: the three fallback rows and the symbol memory by their classes; every other word has its address, and a
command its data, written out. -/
theorem decodeOfEncodeIsIdentity : Obligations.DecodeOfEncodeIsIdentity := by
  unfold Obligations.DecodeOfEncodeIsIdentity
  intro i t hwf h
  cases i
  case check | emit | finish | pop => nomatch h
  all_goals obtain rfl := Option.some.inj h
  case rdSym i => exact (decodeWord_mkT_read _ _).trans (decodeRead_symbolAddr i)
  case wrSym i d => exact (decodeWord_mkT_write _ _).trans (decodeWrite_symbolAddr i d)
  case rdRsvd a => exact (decodeWord_mkT_read _ _).trans (decode_of_reservedAddr hwf).1
  case wrRsvd a d => exact (decodeWord_mkT_write _ _).trans ((decode_of_reservedAddr hwf).2 d)
  case cmdRsvd d => exact (decodeWord_mkT_write _ _).trans (decodeCommand_of_reservedCommand hwf)
  case cmdNop | cmdStart | cmdAbort | cmdClrerr | cmdSreset | wrRoId | wrRoVersion | wrRoCap | wrCtrl | wrRoStatus |
      wrRoErrcode | wrRoErrinfo | wrIen | wrIpend | wrSrate | wrTsym | wrBasef | wrBt | wrNsym | wrTones | wrRoNsps |
      wrRoNtot | wrRoFcw0 | wrRoNcnt | wrRoKidx | wrRoJidx | wrRoPhase | wrRoOutpeek | wrRoOutpop =>
    exact decodeWord_mkT_write _ _
  all_goals exact decodeWord_mkT_read _ _ -- the reads of named registers

/-- Settles O4: every word is closed, so the decode procedure evaluates. -/
theorem workedEncodingsDecode : Obligations.WorkedEncodingsDecode := by
  unfold Obligations.WorkedEncodingsDecode
  decide

end Sys2Proof
end

section
/-! The opcode table (30_encoding.md R120): when a row applies, by field, and which row its priorities select. -/

namespace Sys2Proof

theorem ext_fields {t u : TWord} (hw : tW t = tW u) (ha : tAddr t = tAddr u) (hd : tData t = tData u) : t = u := by
  rw [← mkT_fields t, ← mkT_fields u, hw, ha, hd]

/-- A row applies field by field. -/
theorem OpRow.applies_iff (r : OpRow) (t : TWord) : r.applies t = true ↔
    tW t &&& tW r.mask = tW r.pattern ∧ tAddr t &&& tAddr r.mask = tAddr r.pattern ∧
      tData t &&& tData r.mask = tData r.pattern := by
  have hfields : tW (t &&& r.mask) = tW t &&& tW r.mask ∧ tAddr (t &&& r.mask) = tAddr t &&& tAddr r.mask ∧
      tData (t &&& r.mask) = tData t &&& tData r.mask :=
    ⟨BitVec.extractLsb'_and, BitVec.extractLsb'_and, BitVec.extractLsb'_and⟩
  obtain ⟨hw, ha, hd⟩ := hfields
  rw [← hw, ← ha, ← hd, OpRow.applies, beq_iff_eq]
  exact ⟨fun h => h ▸ ⟨rfl, rfl, rfl⟩, fun ⟨hw, ha, hd⟩ => ext_fields hw ha hd⟩

/-- A row that fixes the whole word. -/
theorem OpRow.eq_pattern_of_applies {r : OpRow} {t : TWord} (hm : r.mask = BitVec.allOnes 43) (h : r.applies t = true) :
    t = r.pattern := by
  rwa [OpRow.applies, beq_iff_eq, hm, BitVec.and_allOnes] at h

/-- A row that fixes the direction. -/
theorem OpRow.tW_eq_of_applies {r : OpRow} {t : TWord} (hm : tW r.mask = BitVec.allOnes 1) (h : r.applies t = true) :
    tW t = tW r.pattern := by
  rw [← ((r.applies_iff t).1 h).1, hm, BitVec.and_allOnes]

/-- A row that fixes the address. -/
theorem OpRow.tAddr_eq_of_applies {r : OpRow} {t : TWord} (hm : tAddr r.mask = BitVec.allOnes 10)
    (h : r.applies t = true) : tAddr t = tAddr r.pattern := by
  rw [← ((r.applies_iff t).1 h).2.1, hm, BitVec.and_allOnes]

/-- What a word decodes to where a row fixes its direction and its address. -/
theorem OpRow.decodeWord_of_applies {r : OpRow} {t : TWord} (hw : tW r.mask = BitVec.allOnes 1)
    (ha : tAddr r.mask = BitVec.allOnes 10) (h : r.applies t = true) :
    decodeWord t = if tW r.pattern = 1#1 then decodeWrite (tAddr r.pattern) (tData t) else decodeRead (tAddr r.pattern) := by
  rw [decodeWord, tW_eq_of_applies hw h, tAddr_eq_of_applies ha h]

/-- The mask of the symbol rows fixes the two upper bits of the address. -/
theorem and_symbolMask_iff (a : Addr) : a &&& 0x300#10 = 0x100#10 ↔ a.extractLsb' 8 2 = 0b01#2 := by
  constructor
  · intro h
    have h2 := congrArg (BitVec.extractLsb' 8 2) h
    rw [BitVec.extractLsb'_and] at h2
    exact BitVec.and_allOnes.symm.trans h2
  · intro h
    rw [eq_symbolAddr h]
    calc (0b01#2 ++ a.extractLsb' 0 8) &&& (0b11#2 ++ 0#8)
      _ = (0b01#2 &&& 0b11#2) ++ (a.extractLsb' 0 8 &&& 0#8) := BitVec.and_append
      _ = 0x100#10 := by
        rw [BitVec.and_zero]
        rfl

/-- What a word decodes to where a symbol row applies. -/
theorem OpRow.decodeWord_of_applies_symbol {r : OpRow} {t : TWord} (hw : tW r.mask = BitVec.allOnes 1)
    (hm : tAddr r.mask = 0x300#10) (hp : tAddr r.pattern = 0x100#10) (h : r.applies t = true) :
    decodeWord t = if tW r.pattern = 1#1 then .wrSym ((tAddr t).extractLsb' 0 8) (tData t)
      else .rdSym ((tAddr t).extractLsb' 0 8) := by
  have hmask : tAddr t &&& 0x300#10 = 0x100#10 := hm ▸ hp ▸ ((r.applies_iff t).1 h).2.1
  have hsym := eq_symbolAddr ((and_symbolMask_iff _).1 hmask)
  rw [decodeWord, tW_eq_of_applies hw h, hsym, decodeRead_symbolAddr, decodeWrite_symbolAddr,
    BitVec.extractLsb'_append_eq_right]

/-- A row for either direction over the same address bits `m`: one of the two applies wherever those bits are `a`. -/
theorem exists_applies {t : TWord} {m a : Addr} {p : Nat} (ha : tAddr t &&& m = a)
    (hrows : ∀ w ∈ [0#1, 1#1], ∃ q ∈ opTable, q.mask = mkT 1#1 m 0#32 ∧ q.pattern = mkT w a 0#32 ∧ q.priority < p) :
    ∃ q ∈ opTable, q.applies t = true ∧ q.priority < p := by
  have hw : tW t ∈ [0#1, 1#1] := by
    have := BitVec.eq_zero_or_eq_one (tW t)
    simpa using this
  obtain ⟨q, hq, hm, hp, hlt⟩ := hrows _ hw
  refine ⟨q, hq, (q.applies_iff t).2 ?_, hlt⟩
  simp only [hm, hp, tW_mkT, tAddr_mkT, tData_mkT]
  exact ⟨BitVec.and_allOnes, ha, BitVec.and_zero⟩

/-- `CMD` and the named registers have a row for either direction. -/
theorem rows_of_named : ∀ a ∈ cmdAddr :: regMap.map RegRow.addr, ∀ w ∈ [0#1, 1#1],
    ∃ q ∈ opTable, q.mask = mkT 1#1 0x3FF#10 0#32 ∧ q.pattern = mkT w a 0#32 ∧ q.priority < 3 := by decide +kernel

/-- Off the reserved addresses a row beats the fallback rows. -/
theorem exists_applies_of_not_reservedAddr {t : TWord} (h : reservedAddr (tAddr t) ≠ true) :
    ∃ q ∈ opTable, q.applies t = true ∧ q.priority < 3 := by
  obtain hcmd | ⟨i, hi⟩ | ⟨r, hr, ha⟩ | hres := addr_cases (tAddr t)
  · exact exists_applies BitVec.and_allOnes (rows_of_named _ (hcmd ▸ List.mem_cons_self))
  · have hsym : (tAddr t).extractLsb' 8 2 = 0b01#2 := hi ▸ BitVec.extractLsb'_append_eq_left
    exact exists_applies ((and_symbolMask_iff _).2 hsym) (by decide +kernel)
  · exact exists_applies BitVec.and_allOnes
      (rows_of_named _ (List.mem_cons_of_mem _ (List.mem_map.2 ⟨r, hr, ha⟩)))
  · exact absurd hres h

/-- A row that applies carries the mnemonic of the decoded operation, or another row that applies beats it. -/
def OpRow.RightOrBeaten (r : OpRow) (t : TWord) : Prop :=
  r.mnemonic = (decodeWord t).mnemonic ∨ ∃ q ∈ opTable, q.applies t = true ∧ q.priority < r.priority

/-- A word at `CMD` is a reserved command, or one of the five command rows applies. -/
theorem command_row_cases {t : TWord} (hw : tW t = 1#1) (ha : tAddr t = cmdAddr) :
    decodeWord t = .cmdRsvd (tData t) ∨ ∃ q ∈ opTable, q.applies t = true ∧ q.priority < 2 := by
  rw [← mkT_fields t, hw, ha, decodeWord_mkT_write, tData_mkT]
  by_cases h : reservedCommand (tData t) = true
  · exact .inl (decodeCommand_of_reservedCommand h)
  · refine .inr ?_
    obtain h | h | h | h | h := command_cases h
    all_goals
      rw [h]
      decide +kernel

/-- A fallback row is beaten off the reserved addresses. -/
theorem fallback_row_cases (t : TWord) :
    decodeWord t = (if tW t = 1#1 then .wrRsvd (tAddr t) (tData t) else .rdRsvd (tAddr t)) ∨
      ∃ q ∈ opTable, q.applies t = true ∧ q.priority < 3 := by
  by_cases h : reservedAddr (tAddr t) = true
  · obtain ⟨hread, hwrite⟩ := decode_of_reservedAddr h
    exact .inl (by rw [decodeWord, hread, hwrite])
  · exact .inr (exists_applies_of_not_reservedAddr h)

theorem rightOrBeaten_of_applies {r : OpRow} {t : TWord} (hr : r ∈ opTable) (h : r.applies t = true) :
    r.RightOrBeaten t := by
  fin_cases hr
  -- the five commands
  iterate 5 · exact .inl (by rw [OpRow.eq_pattern_of_applies rfl h]; rfl)
  · -- `CMD.RSVD`
    exact (command_row_cases (OpRow.tW_eq_of_applies rfl h) (OpRow.tAddr_eq_of_applies rfl h)).imp_left
      fun hd => by rw [hd]; rfl
  -- the rows of one address
  iterate 49 · exact .inl (by rw [OpRow.decodeWord_of_applies rfl rfl h]; rfl)
  -- `RD.SYM` and `WR.SYM`
  iterate 2 · exact .inl (by rw [OpRow.decodeWord_of_applies_symbol rfl rfl rfl h]; rfl)
  -- `RD.RSVD` and `WR.RSVD`
  iterate 2 · exact (fallback_row_cases t).imp_left fun hd => by rw [hd, OpRow.tW_eq_of_applies rfl h]; rfl

/-- Two rows of one priority that both apply are one row. -/
theorem eq_of_applies_of_priority_eq {r q : OpRow} {t : TWord} (hr : r ∈ opTable) (hq : q ∈ opTable)
    (hp : r.priority = q.priority) (har : r.applies t = true) (haq : q.applies t = true) : r = q := by
  have htable : ∀ r ∈ opTable, ∀ q ∈ opTable,
      r.priority ≠ q.priority ∨ r.pattern &&& q.mask ≠ q.pattern &&& r.mask ∨ r = q := by decide +kernel
  rw [OpRow.applies, beq_iff_eq] at har haq
  have hagree : r.pattern &&& q.mask = q.pattern &&& r.mask := by
    rw [← har, ← haq, BitVec.and_assoc, BitVec.and_assoc, BitVec.and_comm r.mask]
  obtain h | h | h := htable r hr q hq
  · exact absurd hp h
  · exact absurd hagree h
  · exact h

theorem OpRow.winsIn_iff (r : OpRow) (rows : List OpRow) (t : TWord) : r.winsIn rows t = true ↔
    r.applies t = true ∧ ∀ q ∈ rows, q.applies t = true → q = r ∨ r.priority < q.priority := by
  simp [OpRow.winsIn, or_assoc, imp_iff_not_or]

/-- At most one row wins. -/
theorem OpRow.eq_of_winsIn {r q : OpRow} {rows : List OpRow} {t : TWord} (hr : r ∈ rows) (hq : q ∈ rows)
    (hwr : r.winsIn rows t = true) (hwq : q.winsIn rows t = true) : q = r := by
  obtain ⟨har, hminr⟩ := (r.winsIn_iff rows t).1 hwr
  obtain ⟨haq, hminq⟩ := (q.winsIn_iff rows t).1 hwq
  obtain h | hrq := hminr q hq haq
  · exact h
  · obtain h | hqr := hminq r hr har
    · exact h.symm
    · omega

/-- A row of the smallest priority among those that apply. -/
theorem exists_applies_min (t : TWord) : ∃ r ∈ opTable, r.applies t = true ∧
    ∀ q ∈ opTable, q.applies t = true → r.priority ≤ q.priority := by
  obtain ⟨q, hq, haq, -⟩ := exists_applies (t := t) (m := 0#10) (p := 4) BitVec.and_zero (by decide +kernel)
  obtain ⟨r, ⟨hr, har⟩, hmin⟩ :=
    (measure OpRow.priority).wf.has_min {r | r ∈ opTable ∧ r.applies t = true} ⟨q, hq, haq⟩
  exact ⟨r, hr, har, fun q hq haq => not_lt.1 (hmin q ⟨hq, haq⟩)⟩

/-- Settles O3: the row of the smallest priority wins, since rows of one priority exclude each other, and it carries the
right mnemonic, since no row beats it. -/
theorem everyWordSelectsExactlyOneRow : Obligations.EveryWordSelectsExactlyOneRow := by
  unfold Obligations.EveryWordSelectsExactlyOneRow
  intro t
  obtain ⟨r, hr, har, hmin⟩ := exists_applies_min t
  have hwins : r.winsIn opTable t = true := by
    refine (r.winsIn_iff opTable t).2 ⟨har, fun q hq haq => ?_⟩
    obtain heq | hlt := (hmin q hq haq).eq_or_lt
    · exact .inl (eq_of_applies_of_priority_eq hr hq heq har haq).symm
    · exact .inr hlt
  refine ⟨r, hr, hwins, ?_, fun q hq hwq => OpRow.eq_of_winsIn hr hq hwins hwq⟩
  obtain h | ⟨q, hq, haq, hlt⟩ := rightOrBeaten_of_applies hr har
  · exact h
  · exact absurd (hmin q hq haq) (not_le.2 hlt)

end Sys2Proof
end

section
/-! Turns (30_encoding.md R119, R122): what a step does with each event, which engine step a state selects, and what is
refused; and the commands `NOP` and reserved (41_commands.md R191, R196). -/

namespace Sys2Proof.Machine

section
variable {s : State} {rest : List Event} {i : Instr}

/-! What a step does with each event. -/

theorem step_of_host {t : TWord} (h : s.inputs = .host t :: rest) :
    step s = exec (decodeWord t) { s with inputs := rest } := by
  simp [step, h]

theorem step_of_sink (h : s.inputs = .sink :: rest) : step s = exec .pop { s with inputs := rest } := by
  simp [step, h]

theorem step_of_engine_some (h : s.inputs = .engine :: rest) (hi : engineSelect s = some i) :
    step s = exec i { s with inputs := rest } := by
  simp [step, h, hi]

theorem step_of_engine_none (h : s.inputs = .engine :: rest) (hi : engineSelect s = none) :
    step s = .refused .noEngineStep := by
  simp [step, h, hi]

theorem step_of_nil_some (h : s.inputs = []) (hi : engineSelect s = some i) : step s = exec i s := by
  simp [step, h, hi]

theorem step_of_nil_none (h : s.inputs = []) (hi : engineSelect s = none) : step s = .next s := by
  simp [step, h, hi]

theorem step_withFetchWord {w : Nat} (hw : w < 2 ^ 43) :
    step (s.withFetchWord 48 w) = exec (decodeWord (BitVec.ofNat 43 w)) s := by
  have hmod : w % 2 ^ 48 = w := Nat.mod_eq_of_lt (by omega)
  rw [step_of_host rfl, hmod]
  rfl

/-! The engine steps exclude each other. -/

theorem checkEnabled_eq_false_of_run (h : s.state = .run) : checkEnabled s = false := by
  simp [checkEnabled, h]

theorem not_emitEnabled_of_finishEnabled (h : finishEnabled s = true) : emitEnabled s ≠ true := by
  obtain ⟨-, -, hn⟩ := (finishEnabled_iff s).1 h
  intro he
  obtain ⟨-, -, hlt⟩ := (emitEnabled_iff s).1 he
  rw [hn] at hlt
  exact lt_irrefl _ hlt

theorem engineSelect_eq_check_iff : engineSelect s = some .check ↔ checkEnabled s = true := by
  constructor
  · intro h
    obtain ⟨-, hc⟩ | ⟨⟨⟩, -⟩ | ⟨⟨⟩, -⟩ := engineSelect_eq_some h
    exact hc
  · intro hc
    rw [engineSelect, if_pos hc]

theorem engineSelect_eq_emit_iff : engineSelect s = some .emit ↔ emitEnabled s = true := by
  constructor
  · intro h
    obtain ⟨⟨⟩, -⟩ | ⟨-, he⟩ | ⟨⟨⟩, -⟩ := engineSelect_eq_some h
    exact he
  · intro he
    have hc := checkEnabled_eq_false_of_run ((emitEnabled_iff s).1 he).1
    simp [engineSelect, hc, he]

theorem engineSelect_eq_finish_iff : engineSelect s = some .finish ↔ finishEnabled s = true := by
  constructor
  · intro h
    obtain ⟨⟨⟩, -⟩ | ⟨⟨⟩, -⟩ | ⟨-, hf⟩ := engineSelect_eq_some h
    exact hf
  · intro hf
    have hc := checkEnabled_eq_false_of_run ((finishEnabled_iff s).1 hf).1
    simp [engineSelect, hc, not_emitEnabled_of_finishEnabled hf, hf]

/-! An engine or sink operation that is not enabled is refused by name. -/

theorem exec_check_of_not_enabled (h : ¬ checkEnabled s = true) : exec .check s = .refused (.notEnabled "CHECK") :=
  if_neg h

theorem exec_emit_of_not_enabled (h : ¬ emitEnabled s = true) : exec .emit s = .refused (.notEnabled "EMIT") :=
  if_neg h

theorem exec_finish_of_not_enabled (h : ¬ finishEnabled s = true) : exec .finish s = .refused (.notEnabled "FINISH") :=
  if_neg h

theorem exec_pop_of_not_enabled (h : ¬ popEnabled s = true) : exec .pop s = .refused (.notEnabled "POP") :=
  if_neg h

end

/-- Settles O5: the word of a well-formed operation decodes to it. -/
theorem stepPerformsTheTransaction : Obligations.StepPerformsTheTransaction := by
  unfold Obligations.StepPerformsTheTransaction
  refine ⟨fun s t rest => step_of_host, fun s i t rest hwf henc hin => ?_, fun s w => step_withFetchWord⟩
  rw [step_of_host hin, decodeOfEncodeIsIdentity i t hwf henc]

/-- Settles O6: one lemma per turn. -/
theorem turnsOfEngineAndSink : Obligations.TurnsOfEngineAndSink := by
  unfold Obligations.TurnsOfEngineAndSink
  exact fun s rest => ⟨step_of_sink, fun i => step_of_engine_some, step_of_engine_none, fun i => step_of_nil_some,
    step_of_nil_none⟩

/-- Settles O7: the engine selects an operation exactly where it is enabled. -/
theorem engineSelectionIsByState : Obligations.EngineSelectionIsByState := by
  unfold Obligations.EngineSelectionIsByState
  intro s
  refine ⟨engineSelect_eq_check_iff.trans (checkEnabled_iff s), engineSelect_eq_emit_iff.trans (emitEnabled_iff s),
    engineSelect_eq_finish_iff.trans (finishEnabled_iff s), popEnabled_iff s, fun ⟨hc, he⟩ => ?_, fun ⟨hc, hf⟩ => ?_,
    fun ⟨he, hf⟩ => not_emitEnabled_of_finishEnabled hf he, fun i hi => ?_, rfl, rfl, rfl, rfl⟩
  · simp [checkEnabled_eq_false_of_run ((emitEnabled_iff s).1 he).1] at hc
  · simp [checkEnabled_eq_false_of_run ((finishEnabled_iff s).1 hf).1] at hc
  · exact (engineSelect_eq_some hi).imp And.left (Or.imp And.left And.left)

/-- Settles O23: the reserved words by number are those the decoder takes for reserved. -/
theorem nopAndReservedCommands : Obligations.NopAndReservedCommands := by
  unfold Obligations.NopAndReservedCommands
  refine fun s d => ⟨decodeWord_mkT_write _ _, rfl, fun h => ?_, rfl⟩
  exact (decodeWord_mkT_write cmdAddr d).trans (decodeCommand_of_reservedCommand ((reservedCommand_iff d).2 h))

/-- Settles O36: each premise shuts out the selection condition. -/
theorem disabledOperationsHaveNoStep : Obligations.DisabledOperationsHaveNoStep := by
  unfold Obligations.DisabledOperationsHaveNoStep
  refine fun s => ⟨fun h => exec_check_of_not_enabled ?_, fun h => exec_emit_of_not_enabled ?_,
    fun h => exec_finish_of_not_enabled ?_, fun h => exec_pop_of_not_enabled ?_⟩
  · rwa [checkEnabled_iff]
  · rw [emitEnabled_iff]
    rintro ⟨hrun, hv, hn⟩
    simp [hrun, hv, not_le.2 hn] at h
  · rw [finishEnabled_iff]
    rintro ⟨hrun, hv, hn⟩
    simp [hrun, hv, hn] at h
  · rw [popEnabled_iff]
    rintro ⟨hv, hm⟩
    simp [hv, hm] at h

end Sys2Proof.Machine
end

section
/-! Host accesses (40_host_access.md): what reads return, what writes store or ignore, and that each transaction is
performed in every state (R140). -/

namespace Sys2Proof.Machine

/-! Reads (R142 to R173, R180, R182). -/

/-- A read of a narrow register returns it below zeros. -/
theorem readReturns_setWidth {m n : Nat} (h : m + n = 32) (x : BitVec n) (s : State) :
    readReturns (x.setWidth 32) s = .next { s with rdata := some ((0#m ++ x).cast h) } := by
  obtain rfl : m = 32 - n := by omega
  rw [readReturns, BitVec.setWidth_eq_append (by omega)]

theorem setWidth_ofBool (b : Bool) : (BitVec.ofBool b).setWidth 32 = if b then 1#32 else 0#32 := by
  cases b <;> rfl

/-- Settles O10: constants, whole registers, and narrow registers below zeros. -/
theorem readsReturnControlRegisters : Obligations.ReadsReturnControlRegisters := by
  unfold Obligations.ReadsReturnControlRegisters
  intro s d
  refine ⟨⟨?_, rfl⟩, ⟨?_, rfl⟩, ⟨?_, rfl⟩, ⟨?_, ?ctrl⟩, ⟨?_, rfl⟩, ⟨?_, readReturns_setWidth rfl _ s⟩, ⟨?_, rfl⟩,
    ⟨?_, readReturns_setWidth rfl _ s⟩, ⟨?_, readReturns_setWidth rfl _ s⟩⟩
  case ctrl => rw [← setWidth_ofBool]; rfl
  all_goals exact decodeWord_mkT_read _ d

/-- Settles O11: the registers are as wide as a word. -/
theorem readsReturnParameterRegisters : Obligations.ReadsReturnParameterRegisters := by
  unfold Obligations.ReadsReturnParameterRegisters
  intro s d
  refine ⟨⟨?_, rfl⟩, ⟨?_, rfl⟩, ⟨?_, rfl⟩, ⟨?_, rfl⟩, ⟨?_, rfl⟩, ⟨?_, rfl⟩⟩
  all_goals exact decodeWord_mkT_read _ d

/-- Settles O12: whole registers, and narrow registers below zeros. -/
theorem readsReturnDerivedRegisters : Obligations.ReadsReturnDerivedRegisters := by
  unfold Obligations.ReadsReturnDerivedRegisters
  intro s d
  refine ⟨⟨?_, readReturns_setWidth rfl _ s⟩, ⟨?_, rfl⟩, ⟨?_, rfl⟩, ⟨?_, rfl⟩, ⟨?_, readReturns_setWidth rfl _ s⟩,
    ⟨?_, readReturns_setWidth rfl _ s⟩, ⟨?_, rfl⟩⟩
  all_goals exact decodeWord_mkT_read _ d

/-- The address of symbol `i` by number (R81). -/
theorem ofNat_symbolAddr (i : Byte) : BitVec.ofNat 10 (0x100 + i.toNat) = 0b01#2 ++ i := by
  apply BitVec.eq_of_toNat_eq
  have := i.isLt
  rw [BitVec.toNat_append, ← Nat.shiftLeft_add_eq_or_of_lt i.isLt, Nat.shiftLeft_eq]
  simp only [BitVec.toNat_ofNat]
  omega

/-- Settles O14: by the class of the address. -/
theorem symbolAndReservedReads : Obligations.SymbolAndReservedReads := by
  unfold Obligations.SymbolAndReservedReads
  refine fun s d => ⟨fun idx => ⟨?_, readReturns_setWidth rfl _ s⟩, fun a ha => ⟨?_, rfl⟩⟩
  · rw [ofNat_symbolAddr, decodeWord_mkT_read, decodeRead_symbolAddr]
  · rw [decodeWord_mkT_read, (decode_of_reservedAddr ha).1]

/-! Writes that store (R146 to R166, R181). -/

/-- The two answers of a busy-protected write, by `STATE`. -/
theorem busyProtected_eq_ite (s w : State) :
    busyProtected s w = .next (if s.state = .check ∨ s.state = .run then s.noteWrbusy else w) := by
  split_ifs with h
  · exact busyProtected_of_busy ((busy_iff s).2 h)
  · exact busyProtected_of_not_busy (Bool.eq_false_iff.2 (mt (busy_iff s).1 h))

/-- Settles O18: each of the seven writes is busy-protected. -/
theorem writesStoreUnlessBusy : Obligations.WritesStoreUnlessBusy := by
  unfold Obligations.WritesStoreUnlessBusy
  rintro s flagged imm rfl
  refine ⟨⟨?_, busyProtected_eq_ite s _⟩, ⟨?_, busyProtected_eq_ite s _⟩, ⟨?_, busyProtected_eq_ite s _⟩,
    ⟨?_, busyProtected_eq_ite s _⟩, ⟨?_, busyProtected_eq_ite s _⟩, ⟨?_, busyProtected_eq_ite s _⟩,
    ⟨?_, busyProtected_eq_ite s _⟩⟩
  all_goals exact decodeWord_mkT_write _ imm

/-- The symbol operand is the value, 255 where it is above (R117). -/
theorem symOperand_toNat (v : Word) : (symOperand v).toNat = min v.toNat 255 := by
  have hhigh : v.extractLsb' 8 24 = 0#24 ↔ v.toNat < 256 := by
    have := v.isLt
    rw [← BitVec.toNat_inj, BitVec.extractLsb'_toNat, Nat.shiftRight_eq_div_pow, BitVec.toNat_ofNat]
    omega
  unfold symOperand
  split_ifs with h <;> rw [hhigh] at h
  · rw [BitVec.extractLsb'_toNat, Nat.shiftRight_zero]
    omega
  · rw [min_eq_right (by omega)]
    rfl

/-- Settles O20: the store is that of the saturated operand, and a read after it sees that entry alone changed. -/
theorem symbolWriteSaturates : Obligations.SymbolWriteSaturates := by
  unfold Obligations.SymbolWriteSaturates
  refine fun s idx val hwf => ⟨?_, fun hb => ?_, fun hb => ?_⟩
  · rw [ofNat_symbolAddr, decodeWord_mkT_write, decodeWrite_symbolAddr]
  · exact busyProtected_of_busy ((busy_iff s).2 hb)
  · have hfree : busy s = false := by obtain h | h := hb <;> simp [busy, h]
    have hread := Memory.read_write hwf.1 idx.toNat (symOperand val)
    refine ⟨_, busyProtected_of_not_busy hfree, Memory.write_wf hwf idx.isLt, ?_, fun a ha => ?_⟩
    · rw [hread, if_pos rfl, symOperand_toNat]
    · rw [hread, if_neg ha]

/-- Settles O21: bit by bit from the operand's low three. -/
theorem interruptRegisterWrites : Obligations.InterruptRegisterWrites := by
  unfold Obligations.InterruptRegisterWrites
  refine fun s imm => ⟨decodeWord_mkT_write _ imm, decodeWord_mkT_write _ imm, ⟨_, rfl, fun b hb => ?_⟩,
    ⟨_, rfl, fun b hb => ?_⟩⟩
  all_goals simp [irqOperand, hb]

/-! Writes that are ignored (R179, R183). -/

/-- The operations a write to a read-only, read-sensitive or reserved address selects do nothing. -/
theorem exec_ignoredWrite {i : Instr} (hi : i.mnemonic = "WR.RO" ∨ i.mnemonic = "WR.RSVD") (s : State) :
    exec i s = .next s := by
  cases i
  case wrRoId | wrRoVersion | wrRoCap | wrRoStatus | wrRoErrcode | wrRoErrinfo | wrRoNsps | wrRoNtot | wrRoFcw0 |
      wrRoNcnt | wrRoKidx | wrRoJidx | wrRoPhase | wrRoOutpeek | wrRoOutpop | wrRsvd =>
    rfl
  all_goals simp [Instr.mnemonic] at hi

/-- The read-only and read-sensitive registers (R81). -/
def readOnlyAddrs : List Nat :=
  [0x000, 0x001, 0x002, 0x005, 0x006, 0x007, 0x018, 0x019, 0x01A, 0x01B, 0x01C, 0x01D, 0x01E, 0x020, 0x021]

theorem decodeWrite_of_mem_readOnlyAddrs {a : Addr} (d : Word) (h : a.toNat ∈ readOnlyAddrs) :
    (decodeWrite a d).mnemonic = "WR.RO" := by
  have ha : a ∈ readOnlyAddrs.map (BitVec.ofNat 10) := List.mem_map.2 ⟨_, h, by simp⟩
  fin_cases ha
  all_goals rfl

/-- Settles O22: every such address selects an ignored write. -/
theorem readOnlyAndReservedWritesAreInert : Obligations.ReadOnlyAndReservedWritesAreInert := by
  unfold Obligations.ReadOnlyAndReservedWritesAreInert
  refine ⟨fun s a d ha => ?_, fun s a d i hi => exec_ignoredWrite ?_ s⟩
  · rw [decodeWord_mkT_write]
    refine exec_ignoredWrite (ha.imp (decodeWrite_of_mem_readOnlyAddrs d) fun hr => ?_) s
    rw [(decode_of_reservedAddr hr).2]
    rfl
  · fin_cases hi
    iterate 15 · exact .inl rfl
    · exact .inr rfl -- `WR.RSVD`, the last

/-! Every transaction is performed (R140). -/

/-- A read in every state: the next state holds a word. -/
def CompletesAsRead (i : Instr) : Prop := ∀ s : State, ∃ t, exec i s = .next t ∧ ∃ v, t.rdata = some v

/-- A write in every state: the last word read stays. -/
def CompletesAsWrite (i : Instr) : Prop := ∀ s : State, ∃ t, exec i s = .next t ∧ t.rdata = s.rdata

theorem IdempotentRead.completes {i : Instr} (h : IdempotentRead i) : CompletesAsRead i := fun s =>
  let ⟨w, hw⟩ := (h s).1
  ⟨_, hw, w, rfl⟩

theorem completesAsRead_rdOutpop : CompletesAsRead .rdOutpop := by
  intro s
  change ∃ t, execRdOutpop s = .next t ∧ _
  unfold execRdOutpop
  split_ifs
  all_goals exact ⟨_, rfl, _, rfl⟩

theorem completesAsRead_decodeRead (a : Addr) : CompletesAsRead (decodeRead a) := by
  by_cases ha : a = 0x021#10
  · exact ha ▸ completesAsRead_rdOutpop
  · exact (idempotentRead_decodeRead ha).completes

theorem busyProtected_completes {s w : State} (hw : w.rdata = s.rdata) :
    ∃ t, busyProtected s w = .next t ∧ t.rdata = s.rdata := by
  refine ⟨_, busyProtected_eq_ite s w, ?_⟩
  split_ifs
  · exact State.noteWrbusy_rdata s
  · exact hw

theorem completesAsWrite_cmdStart : CompletesAsWrite .cmdStart := by
  intro s
  change ∃ t, execCmdStart s = .next t ∧ _
  unfold execCmdStart
  split
  all_goals exact ⟨_, rfl, rfl⟩

theorem completesAsWrite_cmdAbort : CompletesAsWrite .cmdAbort := fun s => ⟨_, rfl, by split <;> rfl⟩

theorem completesAsWrite_decodeCommand (d : Word) : CompletesAsWrite (decodeCommand d) := by
  by_cases h : reservedCommand d = true
  · rw [decodeCommand_of_reservedCommand h]
    exact fun s => ⟨_, rfl, State.noteCmderr_rdata s⟩
  · obtain rfl | rfl | rfl | rfl | rfl := command_cases h
    · exact fun s => ⟨s, rfl, rfl⟩
    · exact completesAsWrite_cmdStart
    · exact completesAsWrite_cmdAbort
    · exact fun s => ⟨_, exec_cmdClrerr, State.clearError_rdata s⟩
    · exact fun s => ⟨_, exec_cmdSreset, State.resetRegisters_rdata s⟩

theorem completesAsWrite_of_mem_regMap {r : RegRow} (hr : r ∈ regMap) (d : Word) : CompletesAsWrite (r.write d) := by
  fin_cases hr
  iterate 3 · exact fun s => ⟨_, rfl, rfl⟩ -- `ID`, `VERSION`, `CAP`
  · exact fun s => busyProtected_completes rfl -- `CTRL`
  iterate 5 · exact fun s => ⟨_, rfl, rfl⟩ -- `STATUS` to `IPEND`
  iterate 6 · exact fun s => busyProtected_completes rfl -- the parameters
  iterate 9 · exact fun s => ⟨_, rfl, rfl⟩ -- `NSPS` to `OUTPOP`

theorem completesAsWrite_decodeWrite (a : Addr) (d : Word) : CompletesAsWrite (decodeWrite a d) := by
  obtain rfl | ⟨i, rfl⟩ | ⟨r, hr, rfl⟩ | h := addr_cases a
  · exact completesAsWrite_decodeCommand d
  · rw [decodeWrite_symbolAddr]
    exact fun s => busyProtected_completes rfl
  · rw [(decode_of_mem_regMap hr).2]
    exact completesAsWrite_of_mem_regMap hr d
  · rw [(decode_of_reservedAddr h).2]
    exact fun s => ⟨s, rfl, rfl⟩

/-- Settles O9: by the direction of the word, each class of address completes as a read or as a write. -/
theorem everyTransactionCompletes : Obligations.EveryTransactionCompletes := by
  unfold Obligations.EveryTransactionCompletes
  intro s t
  unfold decodeWord
  split_ifs with hw
  · obtain ⟨s', hexec, hkeep⟩ := completesAsWrite_decodeWrite (tAddr t) (tData t) s
    exact ⟨s', hexec, by simp [hw], fun _ => hkeep⟩
  · obtain ⟨s', hexec, hword⟩ := completesAsRead_decodeRead (tAddr t) s
    exact ⟨s', hexec, fun _ => hword, fun h => absurd h hw⟩

end Sys2Proof.Machine
end

section
/-! Commands (41_commands.md R192 to R195): what `START`, `ABORT`, `CLRERR` and `SRESET` do in each run state. -/

namespace Sys2Proof.Machine

section
variable {s : State}

theorem exec_cmdStart_of_not_idle (h : s.state ≠ .idle) : exec .cmdStart s = .next s.noteCmderr := by
  change execCmdStart s = _
  unfold execCmdStart
  split
  · exact absurd ‹_› h
  all_goals rfl

theorem busy_eq_false_iff (s : State) : busy s = false ↔ s.state = .idle ∨ s.state = .fault := by
  unfold busy; cases s.state <;> simp

theorem exec_cmdAbort_of_not_busy (h : busy s = false) : exec .cmdAbort s = .next s := by
  simp [exec, execCmdAbort, h]

theorem State.clearError_of_fault (h : s.state = .fault) :
    s.clearError = { s with wrbusy := false, cmderr := false, state := .idle, errcode := 0#16, errinfo := 0#32 } := by
  simp [State.clearError, h]

theorem State.clearError_of_not_fault (h : s.state ≠ .fault) :
    s.clearError = { s with wrbusy := false, cmderr := false } := by
  unfold State.clearError
  split
  · exact absurd ‹_› h
  all_goals rfl

end

/-- Settles O24: by whether the state is `IDLE`. -/
theorem startIsAcceptedOnlyInIdle : Obligations.StartIsAcceptedOnlyInIdle := by
  unfold Obligations.StartIsAcceptedOnlyInIdle
  exact fun s => ⟨decodeWord_mkT_write _ _, fun h => ⟨[], exec_cmdStart_of_idle h⟩, exec_cmdStart_of_not_idle⟩

/-- Settles O25: by whether the block is busy. -/
theorem abortEndsTheRun : Obligations.AbortEndsTheRun := by
  unfold Obligations.AbortEndsTheRun
  exact fun s => ⟨decodeWord_mkT_write _ _, fun h => exec_cmdAbort_of_busy ((busy_iff s).2 h),
    fun h => exec_cmdAbort_of_not_busy ((busy_eq_false_iff s).2 h)⟩

/-- Settles O26: by whether the state is `FAULT`. -/
theorem clrerrReturnsFromTheFault : Obligations.ClrerrReturnsFromTheFault := by
  unfold Obligations.ClrerrReturnsFromTheFault
  refine fun s => ⟨decodeWord_mkT_write _ _, fun h => ?_, fun h => ?_⟩
  · rw [exec_cmdClrerr, State.clearError_of_fault h]
  · rw [exec_cmdClrerr, State.clearError_of_not_fault h]

/-- Settles O27: the command is `State.resetRegisters`, which keeps the record of what was taken. -/
theorem sresetGivesTheResetValues : Obligations.SresetGivesTheResetValues := by
  unfold Obligations.SresetGivesTheResetValues
  exact fun s => ⟨decodeWord_mkT_write _ _, s.delivered, exec_cmdSreset⟩

end Sys2Proof.Machine
end

section
/-! The engine step `CHECK` (42_engine_check.md R210 to R222): its two outcomes, the derived values as the exact integers of
R213 and R221, and the order of the tests. -/

namespace Sys2Proof.Machine

section
variable {s : State}

/-! The two outcomes of `CHECK` where it is enabled. -/

theorem exec_check_of_failure (hs : s.state = .check) {c : BitVec 8} {w : Word} (hf : checkFailure s = some (c, w)) :
    exec .check s = .next (s.raiseInvalidParameters c w) := by
  change execCheck s = _
  rw [execCheck, if_pos ((checkEnabled_iff s).2 hs), hf]

theorem exec_check_of_legal (hs : s.state = .check) (hl : Legal s) : exec .check s = .next s.beginRun := by
  change execCheck s = _
  rw [execCheck, if_pos ((checkEnabled_iff s).2 hs), checkFailure_eq_none.2 hl]

end

/-! The derived values over the integers. -/

theorem toNat_s32_of_pos {srate : Word} (h : 0 < srate.toInt) : ((s32 srate).toNat : Int) = srate.toInt := by
  rw [s32_eq_toInt, Int.toNat_of_nonneg h.le]

theorem samplesPerSymbol_of_pos {srate : Word} (tsym : Word) (h : 0 < srate.toInt) :
    (samplesPerSymbol srate tsym : Int) = srate.toInt * tsym.toNat / 1000000 := by
  rw [← toNat_s32_of_pos h]
  rfl

theorem baseIncrement_of_pos (basef : Word) {srate : Word} (h : 0 < srate.toInt) :
    baseIncrement basef srate = BitVec.ofInt 32 (basef.toNat * 2 ^ 32 / (1000 * srate.toInt)) := by
  rw [← toNat_s32_of_pos h]
  exact (BitVec.ofInt_natCast 32 _).symm

theorem saturate32_eq_ofInt (n : Nat) : saturate32 n = BitVec.ofInt 32 (min (n : Int) 0xFFFFFFFF) := by
  rw [saturate32, ← BitVec.ofInt_natCast, Nat.cast_min, Nat.cast_ofNat]

/-- Settles O30: the tests are passed one by one, so that at each cause the chain of tests begins with the one that fails. -/
theorem checkRaisesTheFirstFailingCause : Obligations.CheckRaisesTheFirstFailingCause := by
  unfold Obligations.CheckRaisesTheFirstFailingCause
  rintro s rate nsps hs rfl hnsps raised
  have raise {c : BitVec 8} {w : Word} (hf : checkFailure s = some (c, w)) : raised (errcodeOf c) w :=
    exec_check_of_failure hs hf
  have tests := checkFailure.eq_1 s
  simp only [s32_eq_toInt, Config.nspsMax, Config.btMax, Config.nsymMax, Config.tonesMax] at tests
  have hn (hrate : 0 < s.srate.toInt) : (samplesPerSymbol s.srate s.tsym : Int) = nsps :=
    (samplesPerSymbol_of_pos s.tsym hrate).trans hnsps.symm
  refine ⟨fun h => raise (tests.trans (if_pos h)), fun hrate h => ?_, fun hrate h => ?_, fun hrate hpos hmax => ?_⟩
  all_goals -- past cause 1 the rate is positive, and the samples per symbol are those of R213
    have hn := hn hrate
    rw [if_neg (not_le.2 hrate)] at tests
  · exact raise (tests.trans (if_pos (by omega)))
  · rw [if_neg (by omega), if_pos (by omega), saturate32_eq_ofInt, hn] at tests
    exact raise tests
  rw [if_neg (by omega), if_neg (by omega)] at tests
  refine ⟨fun h => raise (tests.trans (if_pos h)), fun hbt hbt' => ?_⟩
  rw [if_neg (by omega)] at tests
  refine ⟨fun h => raise (tests.trans (if_pos h)), fun hnsym hnsym' => ?_⟩
  rw [if_neg (by omega)] at tests
  refine ⟨fun h => raise (tests.trans (if_pos h)), fun htones htones' i hi hbad hleast => ?_⟩
  rw [if_neg (by omega), firstBadSymbol_eq_some.2 ⟨hi, hbad, hleast⟩] at tests
  exact raise tests

/-- Settles O29: the arguments are legal, and the registers hold the integers the rules derive. -/
theorem checkStartsALegalRun : Obligations.CheckStartsALegalRun := by
  unfold Obligations.CheckStartsALegalRun
  rintro s rate nsps hs rfl hnsps hrate hpos hmax hbt hbt' hnsym hnsym' htones htones' hsym
  rw [← samplesPerSymbol_of_pos s.tsym hrate] at hnsps
  subst hnsps
  have hl : Legal s :=
    ⟨by rwa [s32_eq_toInt], by omega, by omega, hbt, hbt', hnsym, hnsym', htones, htones', hsym⟩
  rw [exec_check_of_legal hs hl, State.beginRun, baseIncrement_of_pos s.basef hrate, ← BitVec.ofInt_natCast,
    ← BitVec.ofInt_natCast, Nat.cast_mul]

end Sys2Proof.Machine
end

section
/-! The waveform of a run (43_engine_emit.md R242, R247): every step keeps `WaveInv`, one lemma per kind of change to the
state; what `EMIT` and `FINISH` do where they are enabled (R245, R246); and a drained run, which ends with the whole waveform
delivered (70_reset_and_hazards.md R379). -/

namespace Sys2Proof.Machine

/-! What keeps the invariant of the samples (R96, R275). -/

/-- Outside `CHECK` and `RUN` the invariant of the samples asks nothing. -/
theorem WaveInv.of_not_busy {s : State} (h : busy s = false) : WaveInv s := by
  obtain h | h := (busy_eq_false_iff s).1 h
  all_goals constructor <;> simp [h]

/-- The invariant of the samples does not look at the flags, the fault record, the interrupt registers, and the model's
events and read word. -/
theorem WaveInv.setUnobserved {s : State} (hw : WaveInv s) (wrbusy cmderr : Bool) (ien ipend : BitVec 3)
    (inputs : List Event) (rdata : Option Word) : WaveInv { s with wrbusy, cmderr, ien, ipend, inputs, rdata } :=
  ⟨hw.fresh, hw.phase_eq, hw.taken_eq, hw.held_eq⟩

/-- A passing `CHECK` begins with phase 0 and nothing delivered. -/
theorem WaveInv.beginRun {s : State} (hw : WaveInv s) (hc : s.state = .check) : WaveInv s.beginRun where
  fresh := nofun
  phase_eq _ := rfl
  taken_eq _ := by simp [hw.fresh hc, State.taken]
  held_eq _ := nofun

/-- The increment `EMIT` adds is `DPHI(NCNT)` (R247): `KIDX` and `JIDX` are quotient and remainder of `NCNT`. -/
theorem RunInv.nextIncrement_eq {s : State} (hr : RunInv s) : s.nextIncrement = s.args.dphi s.ncnt.toNat := by
  have hdiv : s.ncnt.toNat / s.nsps.toNat = s.kidx.toNat := by
    rw [hr.position, mul_comm, Nat.mul_add_div (by have := hr.jidx_lt; omega), Nat.div_eq_of_lt hr.jidx_lt, add_zero]
  have hmod : s.ncnt.toNat % s.nsps.toNat = s.jidx.toNat := by
    rw [hr.position, Nat.mul_add_mod', Nat.mod_eq_of_lt hr.jidx_lt]
  have hn : s.args.nsps = s.nsps.toNat := hr.nsps_eq.symm
  rw [State.nextIncrement, RunArgs.dphi, hn, hdiv, hmod, hr.fcw0_eq]
  rfl

/-- `EMIT` holds the next sample of the waveform and advances the phase to the one after. -/
theorem WaveInv.emitSample {s : State} (hw : WaveInv s) (hs : Inv s) (he : emitEnabled s = true) :
    WaveInv s.emitSample := by
  obtain ⟨hrun, hempty, hn⟩ := (emitEnabled_iff s).1 he
  have hncnt := emitSample_ncnt_toNat hn
  have hphase := hw.phase_eq hrun
  have htaken : s.emitSample.taken = s.taken := by
    rw [State.taken, State.emitSample_outValid, if_pos rfl, hncnt, State.taken, hempty]
    rfl
  refine ⟨fun h => ?_, fun _ => ?_, fun _ => htaken ▸ hw.taken_eq hrun, fun _ _ => ⟨by omega, ?_, ?_⟩⟩
  · simp [hrun] at h
  · rw [hncnt, State.emitSample_phase, hphase, (hs.inRun hrun).nextIncrement_eq]
    rfl
  · rw [hncnt, State.emitSample_out, hphase]
    rfl
  · rw [hncnt]
    rfl

/-- The held sample leaves as the next of the waveform, in either sink mode. -/
theorem WaveInv.deliveryOf_held {s : State} (hw : WaveInv s) (hs : Inv s) (hv : s.outValid = true) :
    s.deliveryOf (s.ncnt.toNat - 1) = if s.sinksel then .popped s.out else .beat s.out s.outLast := by
  have hrun := hs.held hv
  obtain ⟨hpos, hout, hlast⟩ := hw.held_eq hrun hv
  rw [State.deliveryOf, hout, hlast, Nat.sub_add_cancel hpos, (hs.inRun hrun).ntot_eq_args]

/-- A taking appends the held sample to what has left the block. -/
theorem WaveInv.take {s : State} (hw : WaveInv s) (hs : Inv s) (hv : s.outValid = true) {d : Delivery}
    (hd : d = if s.sinksel then .popped s.out else .beat s.out s.outLast) : WaveInv (s.take d) := by
  have hrun := hs.held hv
  obtain ⟨hpos, -⟩ := hw.held_eq hrun hv
  have hold : s.taken = s.ncnt.toNat - 1 := by simp [State.taken, hv]
  have hnew : (s.take d).taken = s.taken + 1 := by
    simp [State.taken, hv]
    omega
  refine ⟨fun h => ?_, hw.phase_eq, fun _ => ?_, fun _ => nofun⟩
  · simp [hrun] at h
  · rw [hnew, State.take_delivered, List.reverse_cons, hw.taken_eq hrun, List.range_succ, List.map_append,
      List.map_singleton, hd, ← hw.deliveryOf_held hs hv, ← hold]
    rfl

/-- The return from the exception does not touch a run. -/
theorem WaveInv.clearError {s : State} (hw : WaveInv s) : WaveInv s.clearError := by
  by_cases h : s.state = .fault
  · exact .of_idle (by simp [h])
  · exact State.clearError_of_not_fault h ▸ hw.setUnobserved ..

/-- Every operation keeps the invariant of the samples. -/
theorem Effect.waveInv {s t : State} {i : Instr} (h : Effect s i t) (hs : Inv s) (hw : WaveInv s) : WaveInv t := by
  cases h
  -- only fields the invariant does not look at
  case read | stay | discarded | ien | ipend | refused | reserved => exact hw.setUnobserved ..
  -- an argument, outside a run
  case ctrl hb | srate hb | tsym hb | basef hb | bt hb | nsym hb | tones hb | sym hb => exact .of_not_busy hb
  -- the held sample leaves
  case popped he =>
    obtain ⟨hv, hm⟩ := (popEnabled_iff s).1 he
    exact hw.take hs hv (by simp [hm])
  case hostTook hm hv => exact (hw.take hs hv (by simp [hm])).setUnobserved ..
  -- into `CHECK`, with the record begun anew, and out of the run
  case start => exact ⟨fun _ => rfl, nofun, nofun, nofun⟩
  case abort | finished | sreset => exact .of_idle rfl
  case raised => exact .of_not_busy rfl
  case clrerr => exact hw.clearError
  -- the engine
  case begun hc _ => exact hw.beginRun hc
  case emitted he _ => exact hw.emitSample hs he

/-- Settles O58: the next state is the old one, the outcome of an operation, or a reset state. -/
theorem stepKeepsTheWaveform : Obligations.StepKeepsTheWaveform := by
  unfold Obligations.StepKeepsTheWaveform
  intro s t hs hw h
  obtain rfl | ⟨rest, ⟨i, hi⟩ | ⟨draw, rfl⟩⟩ := step_eq_next h
  · exact hw
  · exact (exec_effect hi).waveInv (hs.setUnconstrained ..) (hw.setUnobserved ..)
  · exact .of_idle rfl

/-! EMIT and FINISH where they are enabled. -/

theorem exec_emit_of_enabled {s : State} (he : emitEnabled s = true) (hd : emitDomain s = true) :
    exec .emit s = .next s.emitSample := by
  change execEmit s = _
  rw [execEmit, if_pos he, if_pos hd]

theorem exec_finish_of_enabled {s : State} (he : finishEnabled s = true) :
    exec .finish s = .next { s with state := .idle, done := true, ipend := s.ipend ||| doneIp } :=
  if_pos he

/-- The increment of a sample as the words of R235 to R237 give it. -/
theorem toNat_sampleIncrement (sym : Memory) (nsym N B : Nat) (fcw0 : Word) (k j : Nat) :
    (sampleIncrement sym nsym N B fcw0 k j).toNat =
      (fcw0.toNat + modulationSum (symbolWindow sym nsym k) N B j * 2 ^ 17 / N) % 2 ^ 32 := by
  simp only [sampleIncrement, phaseIncrement, modulationIncrement, BitVec.toNat_ofNat, Config.hMod, Config.wPhi,
    Config.wPq, one_mul, Nat.reduceSub]

/-- The window of R231: the index is clamped to the sequence at both edges. -/
theorem symbolWindow_eq (sym : Memory) (nsym k : Nat) : symbolWindow sym nsym k =
    { prev := (sym.read (if 0 < k then k - 1 else 0)).toNat
      cur := (sym.read k).toNat
      next := (sym.read (if k + 1 < nsym then k + 1 else nsym - 1)).toNat } := by
  rw [symbolWindow, apply_ite sym.read, apply_ite sym.read, apply_ite BitVec.toNat, apply_ite BitVec.toNat]

/-- A counter one up, as a word of the natural number. -/
theorem add_one_eq_ofNat {n : Nat} (x : BitVec n) : x + 1#n = BitVec.ofNat n (x.toNat + 1) := by
  rw [BitVec.ofNat_add, BitVec.ofNat_toNat, BitVec.setWidth_eq]

/-- Settles O33: in the domain `EMIT` is `emitSample`, whose words are those of the rules. -/
theorem emitProducesOneSample : Obligations.EmitProducesOneSample := by
  unfold Obligations.EmitProducesOneSample
  rintro s _ _ _ _ _ _ _ _ rfl rfl rfl rfl hrun hempty hn hk hnsym hj hbt hbt' rfl rfl rfl rfl
  rw [exec_emit_of_enabled ((emitEnabled_iff s).2 ⟨hrun, hempty, hn⟩)
    ((emitDomain_iff s).2 ⟨hk, hnsym, hj, hbt, hbt'⟩)]
  have hlast : s.endsRun = decide (s.ncnt.toNat = s.ntot.toNat - 1) := decide_eq_decide.2 (by omega)
  have hphase : s.phase + s.nextIncrement = BitVec.ofNat 32 (s.phase.toNat + s.nextIncrement.toNat) := by
    rw [BitVec.ofNat_add, BitVec.ofNat_toNat, BitVec.ofNat_toNat, BitVec.setWidth_eq, BitVec.setWidth_eq]
  rw [State.nextIncrement, toNat_sampleIncrement, symbolWindow_eq] at hphase
  rw [State.emitSample, hlast, add_one_eq_ofNat, add_one_eq_ofNat, add_one_eq_ofNat, State.nextIncrement, hphase]
  simp only [State.endsSymbol, decide_eq_true_eq, apply_ite (BitVec.ofNat _), BitVec.ofNat_toNat, BitVec.setWidth_eq]
  rfl

/-- Settles O34: `FINISH` is enabled. -/
theorem finishEndsTheRun : Obligations.FinishEndsTheRun := by
  unfold Obligations.FinishEndsTheRun
  exact fun s hrun hempty hn => exec_finish_of_enabled ((finishEnabled_iff s).2 ⟨hrun, hempty, hn⟩)

/-! A drained run (R379). -/

section
variable {s : State} {rest : List Event}

/-- With a sample held, the taking turn takes it as the invariant of the samples says, and changes no argument. -/
theorem step_takeTurn (hv : s.outValid = true) (h : s.inputs = s.takeTurn :: rest) :
    ∃ t, step s = .next t ∧ t.outValid = false ∧ t.state = s.state ∧ t.inputs = rest ∧ t.args = s.args ∧
      t.sinksel = s.sinksel ∧ t.ncnt = s.ncnt ∧ t.ntot = s.ntot := by
  cases hm : s.sinksel
  case false =>
    have hstep := step_of_sink (by simpa [State.takeTurn, hm] using h)
    exact ⟨_, hstep.trans (if_pos (by simp [popEnabled, outTvalid, hv, hm])), rfl, rfl, rfl, rfl, hm, rfl, rfl⟩
  case true =>
    have hstep := step_of_host (by simpa [State.takeTurn, hm] using h)
    have hdecode : decodeWord 0x02100000000#43 = .rdOutpop := by decide
    rw [hdecode] at hstep
    exact ⟨_, hstep.trans (if_pos (by simp [hv, hm])), rfl, rfl, rfl, rfl, hm, rfl, rfl⟩

/-- An engine turn inside a run with nothing held performs `EMIT`. -/
theorem step_engine_emit (hs : Inv s) (he : emitEnabled s = true) (h : s.inputs = .engine :: rest) :
    step s = .next ({ s with inputs := rest } : State).emitSample := by
  rw [step_of_engine_some h (engineSelect_eq_emit_iff.2 he)]
  exact exec_emit_of_enabled he (hs.emitDomain_of_emitEnabled he)

/-- An engine turn and a taking move a run one sample on. -/
theorem step_engine_then_takeTurn (hs : Inv s) (he : emitEnabled s = true)
    (h : s.inputs = .engine :: s.takeTurn :: rest) :
    ∃ s₁ t, step s = .next s₁ ∧ step s₁ = .next t ∧ t.outValid = false ∧ t.state = .run ∧ t.inputs = rest ∧
      t.args = s.args ∧ t.sinksel = s.sinksel ∧ t.ncnt.toNat = s.ncnt.toNat + 1 ∧ t.ntot = s.ntot := by
  obtain ⟨hrun, -, hn⟩ := (emitEnabled_iff s).1 he
  obtain ⟨t, htake, hempty, hstate, hin, ha, hm, hncnt, hntot⟩ :=
    step_takeTurn (s := State.emitSample { s with inputs := s.takeTurn :: rest }) rfl rfl
  exact ⟨_, t, step_engine_emit hs he h, htake, hempty, hstate.trans hrun, hin, ha, hm,
    hncnt ▸ emitSample_ncnt_toNat hn, hntot⟩

end

/-- How samples leave depends on the arguments and on `SINKSEL` alone. -/
theorem deliveryOf_eq_of_args_eq {s t : State} (ha : t.args = s.args) (hm : t.sinksel = s.sinksel) :
    t.deliveryOf = s.deliveryOf := by
  funext n
  rw [State.deliveryOf, State.deliveryOf, ha, hm]

theorem takeTurn_eq_of_sinksel_eq {s t : State} (hm : t.sinksel = s.sinksel) : t.takeTurn = s.takeTurn := by
  rw [State.takeTurn, State.takeTurn, hm]

theorem core_run_succ {s t : State} (k : Nat) (h : step s = .next t) :
    Sys2Proof.core.run (k + 1) s = Sys2Proof.core.run k t := by
  have hstep : Sys2Proof.core.step s = .next t := h
  simp only [Host.Core.run, hstep]

/-- Where a run of the waveform of `s` ends. -/
structure EndOfRun (s t : State) : Prop where
  idle : t.state = .idle
  done : t.done = true
  inputs : t.inputs = []
  args : t.args = s.args
  ncnt : t.ncnt.toNat = s.args.ntot
  delivered : t.delivered.reverse = (List.range s.args.ntot).map s.deliveryOf

/-- The end of a run does not change along it. -/
theorem EndOfRun.of_args_eq {s t u : State} (h : EndOfRun t u) (ha : t.args = s.args) (hm : t.sinksel = s.sinksel) :
    EndOfRun s u :=
  ⟨h.idle, h.done, h.inputs, ha ▸ h.args, ha ▸ h.ncnt, deliveryOf_eq_of_args_eq ha hm ▸ ha ▸ h.delivered⟩

/-- With every sample taken an engine turn ends the run. -/
theorem step_engine_finish {s : State} (hs : Inv s) (hw : WaveInv s) (hf : finishEnabled s = true)
    (hin : s.inputs = [.engine]) : ∃ t, step s = .next t ∧ EndOfRun s t := by
  obtain ⟨hrun, -, hn⟩ := (finishEnabled_iff s).1 hf
  have hfin := exec_finish_of_enabled (s := { s with inputs := [] }) hf
  obtain ⟨hdel, hdone, hidle, -⟩ := finishMeansDelivered _ _ (hs.setUnconstrained ..) (hw.setUnobserved ..) hfin
  exact ⟨_, (step_of_engine_some hin (engineSelect_eq_finish_iff.2 hf)).trans hfin, hidle, hdone, rfl, rfl,
    hn ▸ (hs.inRun hrun).ntot_eq_args, hdel⟩

/-- From `RUN` with nothing held and `k` samples to come, `k` pairs of an engine turn and a taking and one engine turn
end the run. -/
theorem run_alternating {s : State} {k : Nat} (hs : Inv s) (hw : WaveInv s) (hrun : s.state = .run)
    (hempty : s.outValid = false) (hk : s.ncnt.toNat + k = s.ntot.toNat)
    (hin : s.inputs = alternating s.takeTurn k ++ [.engine]) :
    ∃ t, Sys2Proof.core.run (2 * k + 1) s = .next t ∧ EndOfRun s t := by
  induction k generalizing s with
  | zero =>
    obtain ⟨t, hstep, ht⟩ := step_engine_finish hs hw
      ((finishEnabled_iff s).2 ⟨hrun, hempty, BitVec.eq_of_toNat_eq hk⟩) hin
    exact ⟨t, core_run_succ 0 hstep, ht⟩
  | succ k ih =>
    have hn : s.ncnt.toNat < s.ntot.toNat := by omega
    obtain ⟨s₁, u, hemit, htake, hempty', hrun', hin', ha, hm, hncnt, hntot⟩ :=
      step_engine_then_takeTurn hs ((emitEnabled_iff s).2 ⟨hrun, hempty, hn⟩) hin
    have hs₁ := stepKeepsTheInvariant _ _ hs hemit
    have hw₁ := stepKeepsTheWaveform _ _ hs hw hemit
    obtain ⟨t, hrest, ht⟩ := ih (stepKeepsTheInvariant _ _ hs₁ htake) (stepKeepsTheWaveform _ _ hs₁ hw₁ htake) hrun'
      hempty' (by rw [hncnt, hntot]; omega) (takeTurn_eq_of_sinksel_eq hm ▸ hin')
    exact ⟨t, (core_run_succ _ hemit).trans ((core_run_succ _ htake).trans hrest), ht.of_args_eq ha hm⟩

/-- Settles O60: `CHECK` begins the run, whose samples then leave one by one. -/
theorem drainedRunDeliversTheWaveform : Obligations.DrainedRunDeliversTheWaveform := by
  unfold Obligations.DrainedRunDeliversTheWaveform
  intro s hs hw hc hl hin
  have hcheck := (step_of_engine_some hin (engineSelect_eq_check_iff.2 ((checkEnabled_iff s).2 hc))).trans
    (exec_check_of_legal hc (hl.of_args_eq rfl rfl))
  have hs₁ := stepKeepsTheInvariant _ _ hs hcheck
  obtain ⟨t, hrun, hidle, hdone, hinputs, hargs, hncnt, hdel⟩ :=
    run_alternating (k := s.args.ntot) hs₁ (stepKeepsTheWaveform _ _ hs hw hcheck) rfl rfl
      (by rw [(hs₁.inRun rfl).ntot_eq_args]; exact Nat.zero_add _) rfl
  exact ⟨t, (core_run_succ _ hcheck).trans hrun, hidle, hdone, hinputs, hargs, hncnt, hdel⟩

end Sys2Proof.Machine
end

section
/-! The quantised pulse (43_engine_emit.md R233, R234): its range, its symmetry, and the points and sums that follow from the
saturation of the error function. -/

namespace Sys2Proof.Machine

/-- The difference of the two error functions of R233 in sample `i`: twice the pulse, in fixed point. -/
def erfDifference (N B i : Nat) : Int := erfAt N B ((i : Int) - N) - erfAt N B ((i : Int) - 2 * N)

theorem pulseq_eq_erfDifference (N B i : Nat) :
    pulseq N B i = ((2 ^ 15 * erfDifference N B i + pulseOne) / (2 * pulseOne)).toNat := rfl

/-- Settles O51: the error function stays between -1 and 1. -/
theorem pulseStaysInRange : Obligations.PulseStaysInRange := by
  unfold Obligations.PulseStaysInRange
  intro N B i
  have hle := erfAt_le N B ((i : Int) - N)
  have hge := neg_le_erfAt N B ((i : Int) - 2 * N)
  have hpos : (0 : Int) < 2 * pulseOne := by have := pulseOne_pos; omega
  have hlt : (2 ^ 15 * erfDifference N B i + pulseOne) / (2 * pulseOne) < (32769 : Int) := by
    rw [Int.ediv_lt_iff_lt_mul hpos, erfDifference]
    linarith
  rw [pulseq_eq_erfDifference]
  omega

/-- Mirroring a sample about the centre of the pulse exchanges the two error functions and their signs. -/
theorem erfDifference_mirror {N B i : Nat} (h : i ≤ 3 * N) : erfDifference N B (3 * N - i) = erfDifference N B i := by
  have h1 : ((3 * N - i : Nat) : Int) - N = -((i : Int) - 2 * N) := by omega
  have h2 : ((3 * N - i : Nat) : Int) - 2 * N = -((i : Int) - N) := by omega
  rw [erfDifference, erfDifference, h1, h2, erfAt_neg, erfAt_neg]
  ring

/-- Settles O52: the two error functions change places. -/
theorem pulseIsMirrored : Obligations.PulseIsMirrored := by
  unfold Obligations.PulseIsMirrored
  intro N B i _ _ hi
  rw [pulseq_eq_erfDifference, pulseq_eq_erfDifference, erfDifference_mirror (by omega)]

/-! The half points (R234 Q6). -/

/-- At a distance of a whole symbol the argument of the error function does not depend on the length of the symbol. -/
theorem pulseArg_self {N : Nat} (hN : 1 ≤ N) (B : Nat) : pulseArg N B N = pulseK * B / 256 :=
  Nat.mul_div_mul_right _ _ hN

/-- One symbol from the centre of its step the error function is within `2^-15` of 1: evaluated for each of the 224 products
from 1.0 up to `480 / 256`, from which on it is 1. -/
theorem le_erfMag_of_product_lt :
    ∀ b < 224, 32767 * pulseOne ≤ 2 ^ 15 * erfMag (pulseK * (256 + b) / 256) := by
  decide +kernel

theorem le_erfMag_oneSymbol {N B : Nat} (hN : 1 ≤ N) (hB : 256 ≤ B) :
    32767 * pulseOne ≤ 2 ^ 15 * erfMag (pulseArg N B N) := by
  by_cases h : B < 480
  · obtain ⟨b, rfl⟩ := Nat.exists_eq_add_of_le hB
    rw [pulseArg_self hN]
    exact le_erfMag_of_product_lt b (by omega)
  · rw [erfMag_of_ten_le (pulseArg_saturates hN (by omega) le_rfl)]
    omega

/-- Integers compare as their products with the unit of the rounding. -/
theorem lt_of_two_mul_pulseOne_mul_lt {a b : Int} (h : 2 * pulseOne * a < 2 * pulseOne * b) : a < b :=
  lt_of_mul_lt_mul_left h (by have := pulseOne_pos; omega)

theorem pulseq_oneSymbol {N B : Nat} (hN : 1 ≤ N) (hB : 256 ≤ B) : pulseq N B N = 16384 := by
  have hcentre : erfAt N B ((N : Int) - N) = 0 := by simp [erfAt]
  have hend : erfAt N B ((N : Int) - 2 * N) = -erfMag (pulseArg N B N) := by
    rw [show (N : Int) - 2 * N = -(N : Int) by omega, erfAt_neg, erfAt_of_nonneg]
  obtain ⟨hupper, hlower⟩ := pulseq_rounds (N := N) (B := B) (i := N) (by rw [hcentre, hend]; omega)
  rw [hcentre, hend] at hupper hlower
  have hle : (erfMag (pulseArg N B N) : Int) ≤ pulseOne := by exact_mod_cast erfMag_le _
  have hge : 32767 * (pulseOne : Int) ≤ 2 ^ 15 * erfMag (pulseArg N B N) := by
    exact_mod_cast le_erfMag_oneSymbol hN hB
  have hpos : (0 : Int) < pulseOne := by exact_mod_cast pulseOne_pos
  have hlt : (pulseq N B N : Int) < 16385 := lt_of_two_mul_pulseOne_mul_lt (by linarith)
  have hgt : (16383 : Int) < pulseq N B N := lt_of_two_mul_pulseOne_mul_lt (by linarith)
  omega

/-! The partition of unity (R234 Q7). -/

theorem erfAt_of_saturated {N B : Nat} (hB : 480 ≤ B) (hN : 1 ≤ N) {d : Int} (hd : N ≤ d) :
    erfAt N B d = pulseOne := by
  obtain ⟨d, rfl⟩ := Int.eq_ofNat_of_zero_le (by omega : 0 ≤ d)
  rw [erfAt_of_nonneg, erfMag_of_ten_le (pulseArg_saturates hN hB (by omega))]

theorem erfAt_nonneg (N B : Nat) {d : Int} (hd : 0 ≤ d) : 0 ≤ erfAt N B d := by
  rw [erfAt, if_pos hd]
  exact Int.natCast_nonneg _

theorem erfAt_nonpos (N B : Nat) {d : Int} (hd : d ≤ 0) : erfAt N B d ≤ 0 := by
  have := erfAt_nonneg N B (neg_nonneg.2 hd)
  rw [erfAt_neg] at this
  omega

/-- The three differences of a sample telescope, and where the error function saturates within a symbol only its two ends
are left; each of the three roundings is off by at most half a unit. -/
theorem pulseq_partition {N B j : Nat} (hj : j < N) (hB : 480 ≤ B) :
    32767 ≤ pulseq N B j + pulseq N B (j + N) + pulseq N B (j + 2 * N) ∧
      pulseq N B j + pulseq N B (j + N) + pulseq N B (j + 2 * N) ≤ 32769 := by
  have hN : 1 ≤ N := by omega
  have hright : erfAt N B (j + N) = pulseOne := erfAt_of_saturated hB hN (by omega)
  have hleft : erfAt N B (j - 2 * N) = -pulseOne := by
    rw [← neg_sub, erfAt_neg, erfAt_of_saturated hB hN (by omega)]
  have hfirst := pulseq_rounds (N := N) (B := B) (i := j) (hleft ▸ neg_le_erfAt ..)
  have hsecond := pulseq_rounds (N := N) (B := B) (i := j + N)
    ((erfAt_nonpos N B (by omega)).trans (erfAt_nonneg N B (by omega)))
  have hthird := pulseq_rounds (N := N) (B := B) (i := j + 2 * N) (by
    rw [show ((j + 2 * N : Nat) : Int) - N = j + N by omega, hright]
    exact erfAt_le ..)
  rw [show ((j + N : Nat) : Int) - N = j by omega, show ((j + N : Nat) : Int) - 2 * N = j - N by omega] at hsecond
  rw [show ((j + 2 * N : Nat) : Int) - N = j + N by omega, show ((j + 2 * N : Nat) : Int) - 2 * N = j by omega,
    hright] at hthird
  rw [hleft] at hfirst
  have hpos : (0 : Int) < pulseOne := by exact_mod_cast pulseOne_pos
  have hlt : (pulseq N B j + pulseq N B (j + N) + pulseq N B (j + 2 * N) : Int) < 32770 :=
    lt_of_two_mul_pulseOne_mul_lt (by linarith)
  have hgt : (32766 : Int) < pulseq N B j + pulseq N B (j + N) + pulseq N B (j + 2 * N) :=
    lt_of_two_mul_pulseOne_mul_lt (by linarith)
  omega

/-- The values of V3. -/
theorem pulseq_tables :
    (List.range 3).map (pulseq 1 0x40) = [967, 15414, 15414] ∧ (List.range 3).map (pulseq 1 0x1) = [385, 385, 385] ∧
    (List.range 6).map (pulseq 2 0x100) = [0, 3, 16384, 32763, 16384, 3] ∧
    (List.range 12).map (pulseq 4 0x200) = [0, 0, 0, 3, 16384, 32765, 32768, 32765, 16384, 3, 0, 0] ∧
    (List.range 12).map (pulseq 4 0x80) = [3, 76, 970, 5661, 16381, 27031, 30828, 27031, 16381, 5661, 970, 76] ∧
    (List.range 12).map (pulseq 4 0x40) =
      [967, 2557, 5584, 10138, 15414, 19756, 21447, 19756, 15414, 10138, 5584, 2557] ∧
    [1389, 1390, 1720, 1919, 1921, 2120, 2450, 2451, 3309, 3310, 4370, 4371].map (pulseq 1920 0x200) =
      [0, 1, 1899, 16281, 16487, 30869, 32767, 32768, 32768, 32767, 1, 0] ∧
    [257, 258, 376, 556, 676, 776, 864, 1153, 1470, 1471].map (pulseq 576 0x100) =
      [0, 1, 144, 12997, 29653, 32624, 32763, 16213, 1, 0] := by
  decide +kernel

/-- Settles O53: the half points, the tables and the partition. -/
theorem pulseHalfPoints : Obligations.PulseHalfPoints := by
  unfold Obligations.PulseHalfPoints
  obtain ⟨h1, h2, h3, h4, h5, h6, h7, h8⟩ := pulseq_tables
  refine ⟨fun N B hN hB _ => ⟨pulseq_oneSymbol hN hB, ?_⟩, h1, h2, h3, h4, h5, h6, h7, h8,
    fun N B j hj hB _ => pulseq_partition hj hB⟩
  rw [show 2 * N = 3 * N - N by omega, ← pulseIsMirrored N B N hN hN (by omega), pulseq_oneSymbol hN hB]

end Sys2Proof.Machine
end

section
/-! The samples as binary32 patterns (43_engine_emit.md R241): a sign bit over a magnitude that is the rounding of the
sine in the first quarter turn, so that signs, symmetries and ranges are those of the pattern. -/

namespace Sys2Proof.Machine

/-- Settles O47: the samples are evaluated. -/
theorem sineSampleValues : Obligations.SineSampleValues := by
  unfold Obligations.SineSampleValues
  decide +kernel

/-! The range of the rounding. -/

/-- The 24-bit significand of the rounding, which may have carried to `2^24`. -/
def rneSignificand (m : Nat) : Nat := if m.log2 < 23 then m * 2 ^ (23 - m.log2) else roundShift m (m.log2 - 23)

theorem rne32_eq (m : Nat) : rne32 m = (m.log2 + 6) * 2 ^ 23 + rneSignificand m := rfl

theorem roundShift_le_succ (m sh : Nat) : roundShift m sh ≤ m / 2 ^ sh + 1 := by
  have := Nat.mod_lt (m / 2 ^ sh) (by decide : 0 < 2)
  unfold roundShift
  simp only
  split_ifs <;> omega

theorem le_roundShift (m sh : Nat) : m / 2 ^ sh ≤ roundShift m sh := by
  unfold roundShift
  simp only
  split_ifs <;> omega

theorem rneSignificand_le (m : Nat) : rneSignificand m ≤ 2 ^ 24 := by
  have hlt : m < 2 ^ (m.log2 + 1) := Nat.lt_log2_self
  unfold rneSignificand
  split
  case isTrue h =>
    calc m * 2 ^ (23 - m.log2) ≤ 2 ^ (m.log2 + 1) * 2 ^ (23 - m.log2) := Nat.mul_le_mul_right _ hlt.le
      _ = 2 ^ 24 := by rw [← pow_add]; congr 1; omega
  case isFalse h =>
    refine (roundShift_le_succ _ _).trans (Nat.succ_le_of_lt (Nat.div_lt_of_lt_mul ?_))
    calc m < 2 ^ (m.log2 + 1) := hlt
      _ = 2 ^ (m.log2 - 23) * 2 ^ 24 := by rw [← pow_add]; congr 1; omega

/-- A number up to 1 rounds to a pattern from the exponent field 6 up to that of 1.0. -/
theorem rne32_range {m : Nat} (hm : m ≤ sineOne) : 6 * 2 ^ 23 ≤ rne32 m ∧ rne32 m ≤ 127 * 2 ^ 23 := by
  obtain rfl | hlt := hm.eq_or_lt
  · decide +kernel
  · have hlog : m.log2 < 120 := by
      obtain rfl | h0 := eq_or_ne m 0
      · decide
      · exact (Nat.log2_lt h0).2 hlt
    have := rneSignificand_le m
    rw [rne32_eq]
    omega

/-! A sign over a magnitude of 31 bits. -/

/-- The word of a sign bit and 31 bits of magnitude. -/
def signedPattern (negative : Bool) (n : Nat) : Word := BitVec.ofBool negative ++ BitVec.ofNat 31 n

section
variable {n : Nat}

theorem signedPattern_toNat (negative : Bool) (h : n < 2 ^ 31) :
    (signedPattern negative n).toNat = negative.toNat * 2 ^ 31 + n := by
  rw [signedPattern, BitVec.toNat_append, BitVec.toNat_ofBool, BitVec.toNat_ofNat, Nat.mod_eq_of_lt h,
    ← Nat.shiftLeft_add_eq_or_of_lt h, Nat.shiftLeft_eq]

theorem signedPattern_sign (negative : Bool) (n : Nat) : (signedPattern negative n).getLsbD 31 = negative := by
  rw [signedPattern, BitVec.getLsbD_append]
  simp

theorem signedPattern_magnitude (negative : Bool) (h : n < 2 ^ 31) :
    ((signedPattern negative n).extractLsb' 0 31).toNat = n := by
  rw [signedPattern, BitVec.extractLsb'_append_eq_right, BitVec.toNat_ofNat, Nat.mod_eq_of_lt h]

theorem signedPattern_exponent (negative : Bool) (h : n < 2 ^ 31) :
    ((signedPattern negative n).extractLsb' 23 8).toNat = n / 2 ^ 23 := by
  rw [BitVec.extractLsb'_toNat, signedPattern_toNat negative h, Nat.shiftRight_eq_div_pow]
  cases negative <;> simp only [Bool.toNat_false, Bool.toNat_true] <;> omega

theorem signedPattern_fraction (negative : Bool) (h : n < 2 ^ 31) :
    ((signedPattern negative n).extractLsb' 0 23).toNat = n % 2 ^ 23 := by
  rw [BitVec.extractLsb'_toNat, signedPattern_toNat negative h, Nat.shiftRight_zero]
  cases negative <;> simp only [Bool.toNat_false, Bool.toNat_true] <;> omega

theorem signedPattern_xor_sign (negative : Bool) (n : Nat) :
    signedPattern negative n ^^^ 0x80000000#32 = signedPattern (!negative) n := by
  have hsign : (0x80000000#32 : Word) = 1#1 ++ 0#31 := by decide
  rw [hsign, signedPattern, BitVec.xor_append, BitVec.xor_zero]
  cases negative <;> rfl

end

/-! The samples by half turn. -/

/-- The magnitude of the sample a fraction `psi` of `2^32` of a turn away from a zero crossing. -/
def sampleMagnitude (psi : Nat) : Nat := rne32 (sineQuarter (foldQuarter psi))

theorem sampleMagnitude_range (psi : Nat) : 6 * 2 ^ 23 ≤ sampleMagnitude psi ∧ sampleMagnitude psi ≤ 127 * 2 ^ 23 :=
  rne32_range (sineQuarter_le _)

theorem sampleMagnitude_lt (psi : Nat) : sampleMagnitude psi < 2 ^ 31 := by
  have := sampleMagnitude_range psi
  omega

theorem sampleMagnitude_mirror {psi : Nat} (h : psi ≤ 2 ^ 31) : sampleMagnitude (2 ^ 31 - psi) = sampleMagnitude psi := by
  rw [sampleMagnitude, foldQuarter_mirror h, sampleMagnitude]

theorem sinf_of_crossing {phi : Word} (h : phi.toNat = 0 ∨ phi.toNat = 2 ^ 31) : sinf phi = 0#32 := if_pos h

theorem sinf_of_firstHalf {phi : Word} (h0 : 0 < phi.toNat) (h1 : phi.toNat < 2 ^ 31) :
    sinf phi = signedPattern false (sampleMagnitude phi.toNat) := by
  apply BitVec.eq_of_toNat_eq
  have hlt := sampleMagnitude_lt phi.toNat
  rw [signedPattern_toNat false hlt, sinf, if_neg (by omega), if_pos h1, BitVec.toNat_ofNat]
  change sampleMagnitude phi.toNat % 2 ^ 32 = _
  simp only [Bool.toNat_false]
  omega

theorem sinf_of_secondHalf {phi : Word} (h : 2 ^ 31 < phi.toNat) :
    sinf phi = signedPattern true (sampleMagnitude (2 ^ 32 - phi.toNat)) := by
  apply BitVec.eq_of_toNat_eq
  have hlt := sampleMagnitude_lt (2 ^ 32 - phi.toNat)
  rw [signedPattern_toNat true hlt, sinf, if_neg (by omega), if_neg (by omega), BitVec.toNat_ofNat]
  change (2 ^ 31 + sampleMagnitude (2 ^ 32 - phi.toNat)) % 2 ^ 32 = _
  simp only [Bool.toNat_true]
  omega

/-- A phase is a zero crossing or lies in one of the two half turns. -/
theorem phase_cases (phi : Word) : (phi.toNat = 0 ∨ phi.toNat = 2 ^ 31) ∨
    (0 < phi.toNat ∧ phi.toNat < 2 ^ 31) ∨ 2 ^ 31 < phi.toNat := by
  omega

theorem sinf_neg {phi : Word} (h0 : phi.toNat ≠ 0) (h1 : phi.toNat ≠ 2 ^ 31) :
    sinf (0#32 - phi) = sinf phi ^^^ 0x80000000#32 := by
  have hlt := phi.isLt
  have hneg : (0#32 - phi).toNat = 2 ^ 32 - phi.toNat := by
    rw [BitVec.toNat_sub, BitVec.toNat_ofNat]
    omega
  obtain h | ⟨hpos, h⟩ | h := phase_cases phi
  · omega
  · rw [sinf_of_firstHalf hpos h, signedPattern_xor_sign, sinf_of_secondHalf (by omega), hneg, Nat.sub_sub_self hlt.le]
    rfl
  · rw [sinf_of_secondHalf h, signedPattern_xor_sign, sinf_of_firstHalf (by omega) (by omega), hneg]
    rfl

theorem sinf_mirror {phi : Word} (h : phi.toNat ≤ 2 ^ 31) : sinf (0x80000000#32 - phi) = sinf phi := by
  have hmirror : (0x80000000#32 - phi).toNat = 2 ^ 31 - phi.toNat := by
    rw [BitVec.toNat_sub, BitVec.toNat_ofNat]
    omega
  obtain h0 | ⟨hpos, hlt⟩ | h1 := phase_cases phi
  · rw [sinf_of_crossing h0, sinf_of_crossing (by omega)]
  · rw [sinf_of_firstHalf hpos hlt, sinf_of_firstHalf (by omega) (by omega), hmirror, sampleMagnitude_mirror h]
  · omega

/-- Settles O48: the sign is that of the half turn; negation and mirroring fold to the same magnitude. -/
theorem sineSignAndSymmetries : Obligations.SineSignAndSymmetries := by
  unfold Obligations.SineSignAndSymmetries
  intro phi
  refine ⟨fun h0 h1 => ?_, fun h => ?_, fun h0 h1 => sinf_neg ?_ ?_, sinf_mirror⟩
  · rw [sinf_of_firstHalf h0 h1]
    refine ⟨signedPattern_sign .., fun hzero => ?_⟩
    have hrange := sampleMagnitude_range phi.toNat
    have hmagnitude := signedPattern_magnitude false (sampleMagnitude_lt phi.toNat)
    rw [hzero] at hmagnitude
    change 0 = sampleMagnitude phi.toNat at hmagnitude
    omega
  · rw [sinf_of_secondHalf h, signedPattern_sign]
  · exact fun h => h0 (BitVec.eq_of_toNat_eq h)
  · exact fun h => h1 (BitVec.eq_of_toNat_eq h)

/-- A sample is `+0.0` or has a sign over a magnitude up to that of 1.0. -/
theorem sinf_cases (phi : Word) : sinf phi = 0#32 ∨
    ∃ negative n, sinf phi = signedPattern negative n ∧ 6 * 2 ^ 23 ≤ n ∧ n ≤ 127 * 2 ^ 23 := by
  obtain h | ⟨h0, h1⟩ | h := phase_cases phi
  · exact .inl (sinf_of_crossing h)
  · exact .inr ⟨_, _, sinf_of_firstHalf h0 h1, sampleMagnitude_range _⟩
  · exact .inr ⟨_, _, sinf_of_secondHalf h, sampleMagnitude_range _⟩

/-- Settles O49: the fields of a magnitude from that of exponent field 6 up to that of 1.0. -/
theorem samplesAreZeroOrNormal : Obligations.SamplesAreZeroOrNormal := by
  unfold Obligations.SamplesAreZeroOrNormal
  intro phi
  obtain h | ⟨negative, n, h, hmin, hmax⟩ := sinf_cases phi
  · rw [h]
    decide
  · have hlt : n < 2 ^ 31 := by omega
    have hmagnitude := signedPattern_magnitude negative hlt
    rw [h, signedPattern_exponent negative hlt, hmagnitude]
    refine ⟨.inr (by omega), hmax, fun hnan => ?_⟩
    rw [hnan] at hmagnitude
    change 0x7FC00000 = n at hmagnitude
    omega

end Sys2Proof.Machine
end

section
/-! The distance of a sample from the real sine (43_engine_emit.md R240, R241 S8): the error of the fixed-point evaluation,
and the rounding to binary32. -/

namespace Sys2Proof.Machine

/-! Division in fixed point. -/

theorem abs_natDiv_sub_le (a b : Nat) : |((a / b : Nat) : ℝ) - a / b| ≤ 1 := by
  rw [← Nat.floor_div_eq_div (K := ℝ)]
  have hle := Nat.floor_le (show (0 : ℝ) ≤ a / b by positivity)
  have hlt := Nat.lt_floor_add_one ((a : ℝ) / b)
  rw [abs_le]
  constructor <;> linarith

/-! The nested form of the sine's power series, over the reals. -/

/-- What `sineSeries` evaluates, at the square `z` of the angle. -/
noncomputable def sineNest (z : ℝ) : Nat → Nat → ℝ
  | 0, _ => 1
  | fuel + 1, n => 1 - z * sineNest z fuel (n + 1) / ((2 * n) * (2 * n + 1))

/-- The terms of the power series of `sin x / x` at `z = x ^ 2`. -/
noncomputable def sineTerm (z : ℝ) (i : Nat) : ℝ := (-1) ^ i * z ^ i / (2 * i + 1).factorial

theorem sineTerm_succ (z : ℝ) (i : Nat) :
    sineTerm z (i + 1) = -(sineTerm z i * z / ((2 * (i + 1 : Nat)) * (2 * (i + 1 : Nat) + 1))) := by
  have hfactorial : ((2 * (i + 1) + 1).factorial : ℝ) = (2 * (i + 1) + 1) * (2 * (i + 1)) * (2 * i + 1).factorial := by
    rw [show 2 * (i + 1) + 1 = 2 * i + 1 + 1 + 1 by omega, Nat.factorial_succ, Nat.factorial_succ]
    push_cast
    ring
  rw [sineTerm, sineTerm, hfactorial]
  push_cast
  field_simp
  ring

/-- From term `i` on, the nested form is the partial sum of the power series. -/
theorem sineNest_mul_sineTerm (z : ℝ) (fuel i : Nat) :
    sineNest z fuel (i + 1) * sineTerm z i = ∑ k ∈ Finset.range (fuel + 1), sineTerm z (i + k) := by
  induction fuel generalizing i with
  | zero => simp [sineNest]
  | succ fuel ih =>
    have hshift : ∑ k ∈ Finset.range (fuel + 1), sineTerm z (i + (k + 1)) =
        ∑ k ∈ Finset.range (fuel + 1), sineTerm z (i + 1 + k) := by
      simp only [add_assoc, add_comm 1]
    rw [Finset.sum_range_succ', hshift, ← ih (i + 1), sineTerm_succ, sineNest, add_zero]
    ring

/-- The power series of the sine without its signs. -/
noncomputable def sineMagnitudeTerm (x : ℝ) (i : Nat) : ℝ := x ^ (2 * i + 1) / (2 * i + 1).factorial

theorem mul_sineTerm_sq (x : ℝ) (i : Nat) : x * sineTerm (x ^ 2) i = (-1) ^ i * sineMagnitudeTerm x i := by
  rw [sineTerm, sineMagnitudeTerm]
  ring

/-- Up to `x ^ 2 = 6` the terms do not grow. -/
theorem antitone_sineMagnitudeTerm {x : ℝ} (h0 : 0 ≤ x) (h2 : x ^ 2 ≤ 6) : Antitone (sineMagnitudeTerm x) := by
  refine antitone_nat_of_succ_le fun i => ?_
  have hterm : sineMagnitudeTerm x (i + 1) = sineMagnitudeTerm x i * (x ^ 2 / ((2 * i + 2) * (2 * i + 3))) := by
    rw [sineMagnitudeTerm, sineMagnitudeTerm, show 2 * (i + 1) + 1 = 2 * i + 1 + 1 + 1 by omega, Nat.factorial_succ,
      Nat.factorial_succ]
    push_cast
    field_simp
    ring
  rw [hterm]
  refine mul_le_of_le_one_right (by unfold sineMagnitudeTerm; positivity) ((div_le_one (by positivity)).2 ?_)
  have hi : (0 : ℝ) ≤ i := Nat.cast_nonneg i
  nlinarith

/-- The nested form is the Taylor polynomial of the sine: it is off by at most the first term left out. -/
theorem abs_mul_sineNest_sub_sin_le {x : ℝ} (h0 : 0 ≤ x) (h2 : x ^ 2 ≤ 6) (fuel : Nat) :
    |x * sineNest (x ^ 2) fuel 1 - Real.sin x| ≤ sineMagnitudeTerm x (fuel + 1) := by
  have hpartial : x * sineNest (x ^ 2) fuel 1 = ∑ i ∈ Finset.range (fuel + 1), (-1) ^ i * sineMagnitudeTerm x i := by
    have hnest := sineNest_mul_sineTerm (x ^ 2) fuel 0
    simp only [sineTerm, pow_zero, Nat.mul_zero, Nat.zero_add, Nat.factorial_one, Nat.cast_one, mul_one, div_one] at hnest
    rw [hnest, Finset.mul_sum]
    exact Finset.sum_congr rfl fun i _ => mul_sineTerm_sq x i
  have hsin : Real.sin x = ∑' i, (-1) ^ i * sineMagnitudeTerm x i := by
    rw [Real.sin_eq_tsum]
    exact tsum_congr fun i => mul_div_assoc ..
  rw [hpartial, hsin, abs_sub_comm]
  exact alternating_series_error_bound _ (antitone_sineMagnitudeTerm h0 h2) (Real.hasSum_sinh x).summable _

/-! The error of the evaluation in fixed point. -/

theorem sineOne_pos : (0 : ℝ) < sineOne := by
  exact_mod_cast (by decide : 0 < sineOne)

/-- One level in fixed point: the quotient subtracted is that of the real factors but for one unit. -/
theorem abs_level_sub_le (y S : Nat) {c : Nat} (hc : 0 < c) :
    |((y * S / (sineOne * c) : Nat) : ℝ) / sineOne - (y / sineOne) * (S / sineOne) / c| ≤ 1 / sineOne := by
  have hP := sineOne_pos
  have hdiv := abs_natDiv_sub_le (y * S) (sineOne * c)
  have hscale : ((y * S / (sineOne * c) : Nat) : ℝ) / sineOne - (y / sineOne) * (S / sineOne) / c =
      (((y * S / (sineOne * c) : Nat) : ℝ) - (y * S : Nat) / (sineOne * c : Nat)) / sineOne := by
    push_cast
    field_simp
  rw [hscale, abs_div, abs_of_pos hP]
  gcongr

/-- A product of two factors of which each is off by little. -/
theorem abs_mul_sub_mul_le {Y z s r a b : ℝ} (hY : |Y - z| ≤ a) (hs : |s - r| ≤ b) (hs0 : 0 ≤ s) (hs1 : s ≤ 1)
    (hz0 : 0 ≤ z) (hz3 : z ≤ 3) : |Y * s - z * r| ≤ a + 3 * b := by
  calc |Y * s - z * r| = |(Y - z) * s + z * (s - r)| := by ring_nf
    _ ≤ |Y - z| * s + z * |s - r| := by
        refine (abs_add_le _ _).trans_eq ?_
        rw [abs_mul, abs_mul, abs_of_nonneg hs0, abs_of_nonneg hz0]
    _ ≤ a * 1 + 3 * b := by
        have := abs_nonneg (Y - z)
        gcongr
        exact this.trans hY
    _ = a + 3 * b := by ring

/-- At each level of the nested form the division adds an error of one unit, the square and the level below errors of one and
of three units, divided by at least 6: so three units bound the error of all levels. -/
theorem abs_sineSeries_sub_sineNest_le {y : Nat} {z : ℝ} (hy : y ≤ 3 * sineOne) (hz0 : 0 ≤ z) (hz3 : z ≤ 3)
    (hyz : |(y : ℝ) / sineOne - z| ≤ 1 / sineOne) (fuel : Nat) {n : Nat} (hn : 1 ≤ n) :
    |(sineSeries y fuel n : ℝ) / sineOne - sineNest z fuel n| ≤ 3 / sineOne := by
  have hP := sineOne_pos
  induction fuel generalizing n with
  | zero =>
    rw [sineSeries, sineNest, div_self hP.ne', sub_self, abs_zero]
    positivity
  | succ fuel ih =>
    have hc : 6 ≤ (2 * n) * (2 * n + 1) := Nat.mul_le_mul (by omega : 2 ≤ 2 * n) (by omega : 3 ≤ 2 * n + 1)
    have hS := sineSeries_le y fuel (n + 1)
    have hbelow := ih (n := n + 1) (by omega)
    have hdivisor : ((2 * n : ℝ) * (2 * n + 1)) = ((2 * n) * (2 * n + 1) : Nat) := by push_cast; ring
    rw [sineSeries, sineNest, hdivisor]
    generalize (2 * n) * (2 * n + 1) = c at *
    generalize sineSeries y fuel (n + 1) = S at *
    generalize sineNest z fuel (n + 1) = r at *
    have hquotient : y * S / (sineOne * c) ≤ sineOne :=
      Nat.div_le_of_le_mul (by nlinarith [Nat.mul_le_mul hy hS, Nat.mul_le_mul_left (sineOne * sineOne) hc])
    have hlevel := abs_level_sub_le y S (by omega : 0 < c)
    have hc6 : (6 : ℝ) ≤ c := by exact_mod_cast hc
    have hproduct : |(y : ℝ) / sineOne * (S / sineOne) / c - z * r / c| ≤ (1 / sineOne + 3 * (3 / sineOne)) / 6 := by
      rw [← sub_div, abs_div, abs_of_pos (by linarith : (0 : ℝ) < c)]
      have := abs_mul_sub_mul_le hyz hbelow (by positivity) ((div_le_one hP).2 (by exact_mod_cast hS)) hz0 hz3
      gcongr
    have hsum := abs_sub_le (((y * S / (sineOne * c) : Nat) : ℝ) / sineOne) ((y : ℝ) / sineOne * (S / sineOne) / c)
      (z * r / c)
    rw [Nat.cast_sub hquotient, sub_div, div_self hP.ne', sub_sub_sub_cancel_left, abs_sub_comm]
    calc _ ≤ 1 / (sineOne : ℝ) + (1 / sineOne + 3 * (3 / sineOne)) / 6 := hsum.trans (add_le_add hlevel hproduct)
      _ ≤ 3 / sineOne := by
        rw [show 1 / (sineOne : ℝ) + (1 / sineOne + 3 * (3 / sineOne)) / 6 = (8 / 3) / sineOne by ring]
        gcongr
        norm_num

/-! The sine of the first quarter turn. -/

/-- The angle of `q` in fixed point. -/
def sineAngle (q : Nat) : Nat := sinePi * q / 2 ^ 31

/-- The nested form times the angle, before it is cut off at 1. -/
def sineProduct (q : Nat) : Nat := sineAngle q * sineSeries (sineAngle q * sineAngle q / sineOne) 20 1 / sineOne

theorem sineQuarter_eq (q : Nat) : sineQuarter q = min sineOne (sineProduct q) := rfl

theorem sinePi_near : |(sinePi : ℝ) / sineOne - Real.pi| ≤ 1 / 10 ^ 20 := by
  have hgt := Real.pi_gt_d20
  have hlt := Real.pi_lt_d20
  have hmin : (3.14159265358979323846 : ℝ) ≤ sinePi / sineOne := by norm_num [sinePi, sineOne, sineBits]
  have hmax : (sinePi : ℝ) / sineOne ≤ 3.14159265358979323847 := by norm_num [sinePi, sineOne, sineBits]
  rw [abs_le]
  constructor <;> linarith

section
variable {q : Nat}

/-- The angle in fixed point is that of the phase but for one unit and the error of `sinePi`. -/
theorem sineAngle_near (q : Nat) :
    |(sineAngle q : ℝ) / sineOne - Real.pi * (q / 2 ^ 31)| ≤ 1 / sineOne + 1 / 10 ^ 20 * ((q : ℝ) / 2 ^ 31) := by
  have hP := sineOne_pos
  have hdiv : |((sineAngle q : ℝ) - sinePi * q / 2 ^ 31) / sineOne| ≤ 1 / (sineOne : ℝ) := by
    rw [abs_div, abs_of_pos hP]
    gcongr
    exact_mod_cast abs_natDiv_sub_le (sinePi * q) (2 ^ 31)
  have hpi : |((sinePi : ℝ) / sineOne - Real.pi) * (q / 2 ^ 31)| ≤ 1 / 10 ^ 20 * ((q : ℝ) / 2 ^ 31) := by
    rw [abs_mul, abs_of_nonneg (by positivity : (0 : ℝ) ≤ q / 2 ^ 31)]
    gcongr
    exact sinePi_near
  calc |(sineAngle q : ℝ) / sineOne - Real.pi * (q / 2 ^ 31)|
    _ = |((sineAngle q : ℝ) - sinePi * q / 2 ^ 31) / sineOne + ((sinePi : ℝ) / sineOne - Real.pi) * (q / 2 ^ 31)| := by
        congr 1
        ring
    _ ≤ 1 / sineOne + 1 / 10 ^ 20 * ((q : ℝ) / 2 ^ 31) := (abs_add_le _ _).trans (add_le_add hdiv hpi)

theorem sineAngle_le (q : Nat) : (sineAngle q : ℝ) / sineOne ≤ 8 / 5 * (q / 2 ^ 30) := by
  have hdiv : (sineAngle q : ℝ) ≤ sinePi * q / 2 ^ 31 := by
    exact_mod_cast Nat.cast_div_le (m := sinePi * q) (n := 2 ^ 31)
  have hpi : (sinePi : ℝ) / sineOne ≤ 16 / 5 := by norm_num [sinePi, sineOne, sineBits]
  calc (sineAngle q : ℝ) / sineOne ≤ sinePi * q / 2 ^ 31 / sineOne := by gcongr
    _ = sinePi / sineOne * (q / 2 ^ 31) := by ring
    _ ≤ 16 / 5 * (q / 2 ^ 31) := by gcongr
    _ = 8 / 5 * (q / 2 ^ 30) := by ring

/-- The first term the nested form leaves out is far below the angle. -/
theorem sineMagnitudeTerm_le {x : ℝ} (h0 : 0 ≤ x) (h1 : x ≤ 8 / 5) : sineMagnitudeTerm x 21 ≤ x / 2 ^ 100 := by
  have hpow : x ^ 42 ≤ (8 / 5) ^ 42 := pow_le_pow_left₀ h0 h1 42
  have hfactorial : ((8 / 5) ^ 42 : ℝ) * 2 ^ 100 ≤ (2 * 21 + 1).factorial := by norm_num [Nat.factorial]
  rw [sineMagnitudeTerm, div_le_div_iff₀ (by positivity) (by positivity)]
  have hterm : x ^ 42 * 2 ^ 100 ≤ (2 * 21 + 1).factorial :=
    (mul_le_mul_of_nonneg_right hpow (by positivity)).trans hfactorial
  calc x ^ (2 * 21 + 1) * 2 ^ 100 = x * (x ^ 42 * 2 ^ 100) := by ring
    _ ≤ _ := mul_le_mul_of_nonneg_left hterm h0

theorem sineAngle_le_of_le (hq : q ≤ 2 ^ 30) : (sineAngle q : ℝ) / sineOne ≤ 8 / 5 := by
  refine (sineAngle_le q).trans (mul_le_of_le_one_right (by norm_num) ((div_le_one (by positivity)).2 ?_))
  exact_mod_cast hq

/-- The nested form in fixed point at the square of the angle in fixed point. -/
theorem sineSeries_sineAngle_near (hq : q ≤ 2 ^ 30) :
    |(sineSeries (sineAngle q * sineAngle q / sineOne) 20 1 : ℝ) / sineOne -
      sineNest ((sineAngle q / sineOne) ^ 2) 20 1| ≤ 3 / sineOne := by
  have hP := sineOne_pos
  have hx := sineAngle_le_of_le hq
  have hsquare : ((sineAngle q : ℝ) / sineOne) ^ 2 ≤ 3 := by
    calc ((sineAngle q : ℝ) / sineOne) ^ 2 ≤ (8 / 5) ^ 2 := by gcongr
      _ ≤ 3 := by norm_num
  have hy : sineAngle q * sineAngle q / sineOne ≤ 3 * sineOne := by
    have h5 : 5 * sineAngle q ≤ 8 * sineOne := by
      rw [div_le_iff₀ hP] at hx
      exact_mod_cast (by linarith : (5 : ℝ) * sineAngle q ≤ 8 * sineOne)
    refine Nat.div_le_of_le_mul ?_
    have := Nat.mul_le_mul h5 h5
    nlinarith
  refine abs_sineSeries_sub_sineNest_le hy (by positivity) hsquare ?_ 20 le_rfl
  have := abs_level_sub_le (sineAngle q) (sineAngle q) Nat.one_pos
  rwa [mul_one, Nat.cast_one, div_one, ← sq ((sineAngle q : ℝ) / sineOne)] at this

/-- The product in fixed point is the sine of the angle in fixed point but for the errors of its parts. -/
theorem sineProduct_near (hq : q ≤ 2 ^ 30) :
    |(sineProduct q : ℝ) / sineOne - Real.sin (sineAngle q / sineOne)| ≤
      6 / sineOne + (sineAngle q : ℝ) / sineOne / 2 ^ 100 := by
  have hP := sineOne_pos
  have hx0 : (0 : ℝ) ≤ sineAngle q / sineOne := by positivity
  have hx1 := sineAngle_le_of_le hq
  have hproduct := abs_level_sub_le (sineAngle q) (sineSeries (sineAngle q * sineAngle q / sineOne) 20 1) Nat.one_pos
  rw [mul_one, Nat.cast_one, div_one] at hproduct
  change |(sineProduct q : ℝ) / sineOne - _| ≤ _ at hproduct
  have hseries := sineSeries_sineAngle_near hq
  have htaylor := (abs_mul_sineNest_sub_sin_le hx0 (by nlinarith) 20).trans (sineMagnitudeTerm_le hx0 hx1)
  generalize (sineAngle q : ℝ) / sineOne = x at *
  generalize (sineSeries (sineAngle q * sineAngle q / sineOne) 20 1 : ℝ) / sineOne = s at *
  generalize sineNest (x ^ 2) 20 1 = r at *
  have hscaled : |x * s - x * r| ≤ 5 / sineOne := by
    rw [← mul_sub, abs_mul, abs_of_nonneg hx0]
    calc x * |s - r| ≤ 8 / 5 * (3 / sineOne) := by gcongr
      _ = (24 / 5) / sineOne := by ring
      _ ≤ 5 / sineOne := by gcongr; norm_num
  calc |(sineProduct q : ℝ) / sineOne - Real.sin x|
    _ ≤ 1 / sineOne + (5 / sineOne + x / 2 ^ 100) :=
      (abs_sub_le _ (x * s) _).trans (add_le_add hproduct ((abs_sub_le _ (x * r) _).trans (add_le_add hscaled htaylor)))
    _ = 6 / sineOne + x / 2 ^ 100 := by ring

/-- Cutting off at 1 brings a number no farther from one that is at most 1. -/
theorem abs_min_one_sub_le {a b : ℝ} (hb : b ≤ 1) : |min 1 a - b| ≤ |a - b| := by
  obtain h | h := le_total a 1
  · rw [min_eq_right h]
  · rw [min_eq_left h, abs_of_nonneg (by linarith), abs_of_nonneg (by linarith)]
    linarith

/-- The sine of the first quarter turn, in proportion to the angle. -/
theorem sineQuarter_near (h1 : 1 ≤ q) (hq : q ≤ 2 ^ 30) :
    |(sineQuarter q : ℝ) / sineOne - Real.sin (Real.pi * (q / 2 ^ 31))| ≤ (q : ℝ) / 2 ^ 30 / 2 ^ 60 := by
  have hP := sineOne_pos
  have hcut : |(sineQuarter q : ℝ) / sineOne - Real.sin (Real.pi * (q / 2 ^ 31))| ≤
      |(sineProduct q : ℝ) / sineOne - Real.sin (Real.pi * (q / 2 ^ 31))| := by
    rw [sineQuarter_eq, Nat.cast_min, ← min_div_div_right hP.le, div_self hP.ne']
    exact abs_min_one_sub_le (Real.sin_le_one _)
  have hunit : 1 / (sineOne : ℝ) ≤ q / 2 ^ 30 / 2 ^ 90 := by
    have : (1 : ℝ) ≤ q := by exact_mod_cast h1
    calc 1 / (sineOne : ℝ) = 1 / 2 ^ 30 / 2 ^ 90 := by norm_num [sineOne, sineBits]
      _ ≤ q / 2 ^ 30 / 2 ^ 90 := by gcongr
  have hangle := sineAngle_le q
  have hQ : (0 : ℝ) ≤ q / 2 ^ 30 := by positivity
  have hbound := (abs_sub_le _ (Real.sin (sineAngle q / sineOne)) _).trans
    (add_le_add (sineProduct_near hq) ((Real.abs_sin_sub_sin_le _ _).trans (sineAngle_near q)))
  refine hcut.trans (hbound.trans ?_)
  rw [show 6 / (sineOne : ℝ) = 6 * (1 / sineOne) by ring, show (q : ℝ) / 2 ^ 31 = q / 2 ^ 30 / 2 by ring]
  generalize 1 / (sineOne : ℝ) = u at *
  generalize (sineAngle q : ℝ) / sineOne = x at *
  generalize (q : ℝ) / 2 ^ 30 = Q at *
  norm_num at hunit ⊢
  linarith

end

/-! The rounding to binary32. -/

/-- The value of a binary32 magnitude that is 0 or normal. -/
def magnitudeValue (n : Nat) : Rat :=
  if n / 2 ^ 23 = 0 then 0 else (2 ^ 23 + (n % 2 ^ 23 : Nat)) * 2 ^ (n / 2 ^ 23) / 2 ^ 150

theorem binary32Value_signedPattern (negative : Bool) {n : Nat} (h : n < 2 ^ 31) :
    binary32Value (signedPattern negative n) = if negative then -magnitudeValue n else magnitudeValue n := by
  simp only [binary32Value, signedPattern_sign, signedPattern_exponent negative h, signedPattern_fraction negative h]
  rfl

/-- A significand added to an exponent field, a carry to `2^24` included, stands for the significand times the power of
two. -/
theorem magnitudeValue_of_significand {e s : Nat} (hmin : 2 ^ 23 ≤ s) (hmax : s ≤ 2 ^ 24) :
    magnitudeValue (e * 2 ^ 23 + s) = s * 2 ^ (e + 1) / 2 ^ 150 := by
  obtain rfl | hlt := hmax.eq_or_lt
  · rw [magnitudeValue, show (e * 2 ^ 23 + 2 ^ 24) / 2 ^ 23 = e + 2 by omega,
      show (e * 2 ^ 23 + 2 ^ 24) % 2 ^ 23 = 0 by omega, if_neg (by omega)]
    push_cast
    ring
  · rw [magnitudeValue, show (e * 2 ^ 23 + s) / 2 ^ 23 = e + 1 by omega,
      show (e * 2 ^ 23 + s) % 2 ^ 23 = s - 2 ^ 23 by omega, if_neg (by omega), Nat.cast_sub hmin]
    push_cast
    ring

section
variable {m : Nat}

/-- From 24 bits on the significand is rounded and has its leading bit. -/
theorem rneSignificand_of_le (hm : 2 ^ 23 ≤ m) :
    rneSignificand m = roundShift m (m.log2 - 23) ∧ 2 ^ 23 ≤ rneSignificand m ∧ m.log2 = m.log2 - 23 + 23 := by
  have hlog : 23 ≤ m.log2 := (Nat.le_log2 (by omega)).2 hm
  have hround : rneSignificand m = roundShift m (m.log2 - 23) := if_neg (by omega)
  refine ⟨hround, ?_, by omega⟩
  rw [hround]
  refine le_trans ?_ (le_roundShift _ _)
  rw [Nat.le_div_iff_mul_le (Nat.two_pow_pos _), ← pow_add, show 23 + (m.log2 - 23) = m.log2 by omega]
  exact Nat.log2_self_le (by omega)

theorem log2_add_seven_le_exponent (hm : 2 ^ 23 ≤ m) : m.log2 + 7 ≤ rne32 m / 2 ^ 23 := by
  obtain ⟨-, hmin, -⟩ := rneSignificand_of_le hm
  rw [rne32_eq]
  omega

/-- The rounding is off by at most half a unit of its last place. -/
theorem rne32_near (hm : 2 ^ 23 ≤ m) :
    |((magnitudeValue (rne32 m) : Rat) : ℝ) - m / sineOne| ≤ 2 ^ (m.log2 - 23) / 2 ^ 121 := by
  obtain ⟨hround, hmin, hlog⟩ := rneSignificand_of_le hm
  have hvalue := magnitudeValue_of_significand (e := m.log2 + 6) hmin (rneSignificand_le m)
  obtain ⟨hupper, hlower⟩ := roundShift_near m (m.log2 - 23)
  rw [← rne32_eq, hround, show m.log2 + 6 + 1 = m.log2 - 23 + 30 by omega] at hvalue
  generalize m.log2 - 23 = sh at *
  generalize roundShift m sh = s at *
  have hscale : ((magnitudeValue (rne32 m) : Rat) : ℝ) - m / sineOne = (s * 2 ^ sh - m) / 2 ^ 120 := by
    rw [hvalue, show (sineOne : ℝ) = 2 ^ 120 by norm_num [sineOne, sineBits]]
    push_cast
    ring
  have hnear : |(s : ℝ) * 2 ^ sh - m| ≤ 2 ^ sh / 2 := by
    have hupper : (2 : ℝ) * (s * 2 ^ sh) ≤ 2 * m + 2 ^ sh := by exact_mod_cast hupper
    have hlower : (2 : ℝ) * m ≤ 2 * (s * 2 ^ sh) + 2 ^ sh := by exact_mod_cast hlower
    rw [abs_le]
    constructor <;> linarith
  rw [hscale, abs_div, abs_of_pos (by positivity : (0 : ℝ) < 2 ^ 120)]
  calc |(s : ℝ) * 2 ^ sh - m| / 2 ^ 120 ≤ 2 ^ sh / 2 / 2 ^ 120 := by gcongr
    _ = 2 ^ sh / 2 ^ 121 := by ring

/-- Below 1 half a unit of the last place is at most `2^-25`, and 1 is not rounded. -/
theorem rne32_near_of_le_one (hm : 2 ^ 23 ≤ m) (h1 : m ≤ sineOne) :
    |((magnitudeValue (rne32 m) : Rat) : ℝ) - m / sineOne| ≤ 1 / 2 ^ 25 := by
  obtain rfl | hlt := h1.eq_or_lt
  · have hone : rne32 sineOne = 126 * 2 ^ 23 + 2 ^ 23 := by decide +kernel
    rw [hone, magnitudeValue_of_significand le_rfl (by norm_num), div_self sineOne_pos.ne']
    norm_num
  · have hlog : m.log2 - 23 ≤ 96 := by
      have := (Nat.log2_lt (by omega : m ≠ 0)).2 hlt
      simp only [sineBits] at this
      omega
    calc _ ≤ _ := rne32_near hm
      _ ≤ (2 : ℝ) ^ 96 / 2 ^ 121 := by gcongr; norm_num
      _ = 1 / 2 ^ 25 := by norm_num

end

/-! The samples. -/

/-- The two bounds on the distance of a sample with a given exponent field from the real sine: S8, and half a unit of its
last place, each with what covers the evaluation error. -/
def WithinSampleError (distance : ℝ) (exponent : Nat) : Prop :=
  distance ≤ 1 / 2 ^ 25 + 1 / 2 ^ 60 ∧ distance ≤ (1 + 1 / 2 ^ 30) * (2 ^ exponent / 2 ^ 151)

theorem withinSampleError_zero (exponent : Nat) : WithinSampleError 0 exponent := by
  constructor <;> positivity

/-- The sine of the first quarter turn is at least half of the phase in quarter turns, as an evaluated number. -/
theorem le_sineQuarter {q : Nat} (h1 : 1 ≤ q) (hq : q ≤ 2 ^ 30) : (q : ℝ) / 2 ^ 30 / 2 ≤ sineQuarter q / sineOne := by
  have hq' : (q : ℝ) ≤ 2 ^ 30 := by exact_mod_cast hq
  have hangle : Real.pi * ((q : ℝ) / 2 ^ 31) ≤ Real.pi / 2 := by
    rw [div_eq_mul_inv Real.pi]
    gcongr
    rw [div_le_iff₀ (by positivity)]
    linarith
  have hsin := Real.mul_le_sin (by positivity : 0 ≤ Real.pi * ((q : ℝ) / 2 ^ 31)) hangle
  have hslope : 2 / Real.pi * (Real.pi * ((q : ℝ) / 2 ^ 31)) = q / 2 ^ 30 := by
    field_simp
  have hnear := (abs_le.1 (sineQuarter_near h1 hq)).1
  have hQ : (0 : ℝ) ≤ q / 2 ^ 30 := by positivity
  linarith

theorem two_pow_23_le_sineQuarter {q : Nat} (h1 : 1 ≤ q) (hq : q ≤ 2 ^ 30) : 2 ^ 23 ≤ sineQuarter q := by
  have hle := le_sineQuarter h1 hq
  have h1 : (1 : ℝ) ≤ q := by exact_mod_cast h1
  rw [le_div_iff₀ sineOne_pos, show (sineOne : ℝ) = 2 ^ 120 by norm_num [sineOne, sineBits]] at hle
  exact_mod_cast (by linarith : (2 ^ 23 : ℝ) ≤ sineQuarter q)

/-- The evaluation error is below a `2^-30` part of half a unit of the last place. -/
theorem sineQuarter_near_of_log2 {q : Nat} (h1 : 1 ≤ q) (hq : q ≤ 2 ^ 30) :
    |(sineQuarter q : ℝ) / sineOne - Real.sin (Real.pi * (q / 2 ^ 31))| ≤
      1 / 2 ^ 30 * (2 ^ ((sineQuarter q).log2 - 23) / 2 ^ 121) := by
  obtain ⟨-, -, hlog⟩ := rneSignificand_of_le (two_pow_23_le_sineQuarter h1 hq)
  have hlt : (sineQuarter q : ℝ) < 2 ^ ((sineQuarter q).log2 + 1) := by exact_mod_cast Nat.lt_log2_self
  rw [show (sineQuarter q).log2 + 1 = (sineQuarter q).log2 - 23 + 24 by omega, pow_add] at hlt
  have hlow := le_sineQuarter h1 hq
  rw [le_div_iff₀ sineOne_pos, show (sineOne : ℝ) = 2 ^ 120 by norm_num [sineOne, sineBits]] at hlow
  refine (sineQuarter_near h1 hq).trans ?_
  linarith

/-- The rounded sine of the first quarter turn. -/
theorem rne32_sineQuarter_near {q : Nat} (h1 : 1 ≤ q) (hq : q ≤ 2 ^ 30) :
    WithinSampleError |((magnitudeValue (rne32 (sineQuarter q)) : Rat) : ℝ) - Real.sin (Real.pi * (q / 2 ^ 31))|
      (rne32 (sineQuarter q) / 2 ^ 23) := by
  have hm := two_pow_23_le_sineQuarter h1 hq
  have htriangle := abs_sub_le ((magnitudeValue (rne32 (sineQuarter q)) : Rat) : ℝ) (sineQuarter q / sineOne)
    (Real.sin (Real.pi * (q / 2 ^ 31)))
  constructor
  · have hround := rne32_near_of_le_one hm (sineQuarter_le q)
    have heval := sineQuarter_near h1 hq
    have hQ : (q : ℝ) / 2 ^ 30 ≤ 1 := (div_le_one (by positivity)).2 (by exact_mod_cast hq)
    linarith
  · obtain ⟨-, -, hlog⟩ := rneSignificand_of_le hm
    have hexponent : (2 : ℝ) ^ ((sineQuarter q).log2 - 23) * 2 ^ 30 ≤ 2 ^ (rne32 (sineQuarter q) / 2 ^ 23) := by
      rw [← pow_add]
      refine pow_le_pow_right₀ (by norm_num) ?_
      have := log2_add_seven_le_exponent hm
      omega
    have hround := rne32_near hm
    have heval := sineQuarter_near_of_log2 h1 hq
    linarith

/-- The magnitude of a sample is near the sine of the half turn: the second quarter is the mirror image of the first. -/
theorem sampleMagnitude_near {psi : Nat} (h0 : 0 < psi) (h1 : psi < 2 ^ 31) :
    WithinSampleError |((magnitudeValue (sampleMagnitude psi) : Rat) : ℝ) - Real.sin (Real.pi * (psi / 2 ^ 31))|
      (sampleMagnitude psi / 2 ^ 23) := by
  obtain ⟨hpos, hle⟩ := foldQuarter_range h0 h1
  have hfold : Real.sin (Real.pi * (psi / 2 ^ 31)) = Real.sin (Real.pi * (foldQuarter psi / 2 ^ 31)) := by
    unfold foldQuarter
    split
    · rw [← Real.sin_pi_sub, Nat.cast_sub h1.le]
      congr 1
      push_cast
      ring
    · rfl
  rw [hfold]
  exact rne32_sineQuarter_near hpos hle

/-- Settles O50: the zero crossings are exact, and the second half turn is the first one with the signs of the sample and
of the sine turned round. -/
theorem sampleIsTheSineOfThePhase : Obligations.SampleIsTheSineOfThePhase := by
  unfold Obligations.SampleIsTheSineOfThePhase
  intro phi
  change WithinSampleError |_| _
  obtain h | ⟨h0, h1⟩ | h := phase_cases phi
  · have hsin : Real.sin (2 * Real.pi * phi.toNat / 2 ^ 32) = 0 := by
      obtain h | h := h
      · simp [h]
      · rw [h, ← Real.sin_pi]
        congr 1
        push_cast
        ring
    have hvalue : binary32Value 0#32 = 0 := by decide +kernel
    rw [sinf_of_crossing h, hsin, hvalue, Rat.cast_zero, sub_zero, abs_zero]
    exact withinSampleError_zero _
  · have hlt := sampleMagnitude_lt phi.toNat
    have hangle : 2 * Real.pi * phi.toNat / 2 ^ 32 = Real.pi * (phi.toNat / 2 ^ 31) := by ring
    rw [sinf_of_firstHalf h0 h1, signedPattern_exponent false hlt, binary32Value_signedPattern false hlt, hangle,
      if_neg Bool.false_ne_true]
    exact sampleMagnitude_near h0 h1
  · have hlt := sampleMagnitude_lt (2 ^ 32 - phi.toNat)
    have hsin : Real.sin (2 * Real.pi * phi.toNat / 2 ^ 32) =
        -Real.sin (Real.pi * ((2 ^ 32 - phi.toNat : Nat) / 2 ^ 31)) := by
      rw [← Real.sin_two_pi_sub, Nat.cast_sub phi.isLt.le]
      congr 1
      push_cast
      ring
    rw [sinf_of_secondHalf h, signedPattern_exponent true hlt, binary32Value_signedPattern true hlt, hsin, if_pos rfl,
      Rat.cast_neg, neg_sub_neg, abs_sub_comm]
    exact sampleMagnitude_near (by omega) (by omega)

end Sys2Proof.Machine
end

section
/-! The output side (44_output.md): what the two views of the holding register and `POP` answer, which operations can change
the holding register, and the offered beat (R272). -/

namespace Sys2Proof.Machine

section
variable {s t : State} {i : Instr}

/-! Views and takings (R271, R273, R274). -/

theorem exec_rdOutpop_of_hostHolds (hm : s.sinksel = true) (hv : s.outValid = true) :
    exec .rdOutpop s = .next { s.take (.popped s.out) with rdata := some s.out } :=
  if_pos (by simp [hm, hv])

theorem exec_rdOutpop_of_not_hostHolds (h : s.sinksel = false ∨ s.outValid = false) :
    exec .rdOutpop s = .next { s with rdata := some Config.noData } :=
  if_neg (by simpa [imp_iff_not_or] using h)

theorem exec_pop_of_enabled (h : popEnabled s = true) : exec .pop s = .next (s.take (.beat s.out s.outLast)) :=
  if_pos h

/-! The holding register and the offered beat (R45, R270, R272). -/

/-- The operations that change the holding register, with what enables the engine's and the host's. -/
theorem Effect.holding_cases (h : Effect s i t) :
    (t.out = s.out ∧ t.outValid = s.outValid ∧ t.outLast = s.outLast) ∨
    (i = .emit ∧ s.outValid = false) ∨ (i = .check ∧ s.state = .check) ∨ (i = .rdOutpop ∧ s.sinksel = true) ∨
    i = .pop ∨ i = .cmdAbort ∨ i = .cmdSreset := by
  cases h
  case emitted he _ => simp [((emitEnabled_iff s).1 he).2.1]
  case begun hs _ => simp [hs]
  case hostTook hm _ => simp [hm]
  case popped | abort | sreset | clrerr => simp
  all_goals exact .inl ⟨rfl, rfl, rfl⟩

theorem offeredBeat_eq_some_iff {beat : Word × Bool} :
    offeredBeat s = some beat ↔ s.outValid = true ∧ s.sinksel = false ∧ (s.out, s.outLast) = beat := by
  simp [offeredBeat, outTvalid, and_assoc]

end

/-- Settles O15: the view is `heldWord`. -/
theorem outpeekShowsTheHeldSample : Obligations.OutpeekShowsTheHeldSample := by
  unfold Obligations.OutpeekShowsTheHeldSample
  exact fun s d => ⟨decodeWord_mkT_read _ d, rfl⟩

/-- Settles O16: `OUTPOP` takes exactly where `SINKSEL` gives the sample to the host and one is held. -/
theorem outpopTakesInHostMode : Obligations.OutpopTakesInHostMode := by
  unfold Obligations.OutpopTakesInHostMode
  exact fun s d => ⟨decodeWord_mkT_read _ d, exec_rdOutpop_of_hostHolds, exec_rdOutpop_of_not_hostHolds⟩

/-- Settles O35: `POP` is enabled. -/
theorem popDeliversTheHeldSample : Obligations.PopDeliversTheHeldSample := by
  unfold Obligations.PopDeliversTheHeldSample
  exact fun s hv hm => exec_pop_of_enabled ((popEnabled_iff s).2 ⟨hv, hm⟩)

/-- Settles O46: a beat is offered in `RUN` only (R56 I1), where `SINKSEL` is frozen and nothing but the three operations
the statement leaves out can change a holding register that is full and given to the sink. -/
theorem offeredBeatStaysUntilTaken : Obligations.OfferedBeatStaysUntilTaken := by
  unfold Obligations.OfferedBeatStaysUntilTaken
  intro i s t beat hs hoffer hexec hpop habort hreset
  obtain ⟨hv, hm, hbeat⟩ := offeredBeat_eq_some_iff.1 hoffer
  have hrun := hs.held hv
  have heffect := exec_effect hexec
  obtain ⟨-, -, hsink⟩ := heffect.arguments_of_busy ((busy_iff s).2 (.inr hrun)) hreset
  obtain ⟨hout, hvalid, hlast⟩ | ⟨-, hempty⟩ | ⟨-, hcheck⟩ | ⟨-, hhost⟩ | hi | hi | hi := heffect.holding_cases
  · rw [offeredBeat_eq_some_iff, hout, hvalid, hlast, hsink]
    exact ⟨hv, hm, hbeat⟩
  · simp [hv] at hempty
  · simp [hrun] at hcheck
  · simp [hm] at hhost
  · exact absurd hi hpop
  · exact absurd hi habort
  · exact absurd hi hreset

end Sys2Proof.Machine
end

section
/-! The exception and the interrupt line (60_exceptions.md R320, R330). -/

namespace Sys2Proof.Machine

/-- Settles O31: the one transition into `FAULT` is that of `CHECK`, whose outcome there is the exception. -/
theorem onlyCheckRaises : Obligations.OnlyCheckRaises := by
  unfold Obligations.OnlyCheckRaises
  intro i s t h hs ht
  obtain ⟨rfl, hcheck⟩ : i = .check ∧ s.state = .check := by
    simpa [ht, hs.symm] using (exec_effect h).state_cases
  obtain ⟨-, ⟨c, w, -, rfl⟩ | ⟨-, rfl⟩⟩ := execCheck_eq_next h
  · exact ⟨rfl, hcheck, errcodeOf_kind c⟩
  · simp at ht

/-- Settles O41: the conjunction of the two registers is not 0 exactly where it has a bit set, and it has the bits of
both. -/
theorem irqIsEnabledPending : Obligations.IrqIsEnabledPending := by
  unfold Obligations.IrqIsEnabledPending
  intro s
  have hne : s.ien &&& s.ipend ≠ 0#3 ↔ ∃ b, b < 3 ∧ (s.ien &&& s.ipend).getLsbD b = true := by
    simp [BitVec.eq_of_getLsbD_eq_iff]
  simp only [irq, bne_iff_ne, hne, BitVec.getLsbD_and, Bool.and_eq_true]

end Sys2Proof.Machine
end

section
/-! A run owes nothing to the runs before it (70_reset_and_hazards.md R363): the tests of `CHECK` and what it leaves are
functions of the arguments and `TONES`. -/

namespace Sys2Proof.Machine

theorem checkFailure_eq_of_args_eq {s s' : State} (ha : s.args = s'.args) (ht : s.tones = s'.tones) :
    checkFailure s = checkFailure s' := by
  simp only [State.args, RunArgs.mk.injEq] at ha
  obtain ⟨hsrate, htsym, -, hbt, hnsym, hsym⟩ := ha
  simp only [checkFailure, hsrate, htsym, hbt, hnsym, hsym, ht]

/-- The registers a passing `CHECK` derives (R213, R220, R221) depend on the arguments of the run alone. -/
theorem State.beginRun_derived_eq_of_args_eq {s s' : State} (ha : s.args = s'.args) :
    s.beginRun.nsps = s'.beginRun.nsps ∧ s.beginRun.ntot = s'.beginRun.ntot ∧ s.beginRun.fcw0 = s'.beginRun.fcw0 := by
  simp only [State.args, RunArgs.mk.injEq] at ha
  obtain ⟨hsrate, htsym, hbasef, -, hnsym, -⟩ := ha
  simp only [State.beginRun_nsps, State.beginRun_ntot, State.beginRun_fcw0, hsrate, htsym, hbasef, hnsym, and_self]

/-- Settles O32: both steps meet the same outcome of the tests; a failing one leaves the record of that outcome, a passing
one the derived registers and the start values of the sequencer. -/
theorem checkForgetsEarlierRuns : Obligations.CheckForgetsEarlierRuns := by
  unfold Obligations.CheckForgetsEarlierRuns
  intro s s' t t' ha ht h h'
  have hs : s.state = .check := (execCheck_eq_next h).1
  have hs' : s'.state = .check := (execCheck_eq_next h').1
  have htests : checkFailure s = checkFailure s' := checkFailure_eq_of_args_eq ha ht
  cases hf : checkFailure s with
  | some failure =>
    cases (exec_check_of_failure hs hf).symm.trans h
    cases (exec_check_of_failure hs' (htests ▸ hf)).symm.trans h'
    simp
  | none =>
    cases (exec_check_of_legal hs (checkFailure_eq_none.1 hf)).symm.trans h
    cases (exec_check_of_legal hs' (checkFailure_eq_none.1 (htests ▸ hf))).symm.trans h'
    obtain ⟨hnsps, hntot, hfcw0⟩ := State.beginRun_derived_eq_of_args_eq ha
    exact ⟨rfl, hnsps, hntot, hfcw0, fun _ => ⟨rfl, rfl, rfl, rfl, rfl, rfl⟩, fun hfault => nomatch hfault⟩

end Sys2Proof.Machine
end
